-- ==== Sys2Proof/Word.lean ====
section
/-! DEFINITION. The word types of the block: bytes of memory, 32-bit registers and samples, and the 64-bit slot that
holds a register of ADDR_BITS bits (R50: ADDR_BITS is 32 or 64). -/

namespace Sys2Proof

/-- One byte of memory (R50: "a byte being 8 bits"). -/
abbrev Byte := BitVec 8

/-- A 32-bit register, a command word, or the bit pattern of one sample, zero above the sample's bits. -/
abbrev Word := BitVec 32

/-- The slot of a register of ADDR_BITS bits (R22, R28), wide enough for either width; with ADDR_BITS = 32 the upper half is
zero (log 3). -/
abbrev Addr := BitVec 64

end Sys2Proof
end

