-- ==== Sys2Proof/Syntax.lean ====
section
/-! DEFINITION. The syntax: the six sample formats (R12) and one constructor of `Instr` for each row of
spec/opcode_table.json. The operands of a command stand in A0 to A4 (R78), so a constructor holds only the fields of its
command word: the context index DCTX (R77), the two off flags of RESOLVE (R73) or the new CTRL.ACCEL (R280). -/

namespace Sys2Proof

/-- The six sample formats in the order of their ordinals 0 to 5, best first (R12). -/
inductive Format where
  | f32 | i32 | i24 | i16 | i8 | u8
deriving DecidableEq, Repr

/-- The commands. `dctx` is W[23:16]; a converter whose D bit is 0 carries it and ignores it (R77). -/
inductive Instr where
  /-- COPY.F32, R261. -/
  | copyF32 (dctx : Nat)
  /-- CVT.F32.I32, R171. -/
  | cvtF32I32 (dctx : Nat)
  /-- CVT.F32.I32.C, R172. -/
  | cvtF32I32C (dctx : Nat)
  /-- CVT.F32.I32.D, R173. -/
  | cvtF32I32D (dctx : Nat)
  /-- CVT.F32.I32.DC, R174. -/
  | cvtF32I32Dc (dctx : Nat)
  /-- CVT.F32.I24, R175. -/
  | cvtF32I24 (dctx : Nat)
  /-- CVT.F32.I24.C, R176. -/
  | cvtF32I24C (dctx : Nat)
  /-- CVT.F32.I24.D, R177. -/
  | cvtF32I24D (dctx : Nat)
  /-- CVT.F32.I24.DC, R178. -/
  | cvtF32I24Dc (dctx : Nat)
  /-- CVT.F32.I16, R179. -/
  | cvtF32I16 (dctx : Nat)
  /-- CVT.F32.I16.C, R180. -/
  | cvtF32I16C (dctx : Nat)
  /-- CVT.F32.I16.D, R181. -/
  | cvtF32I16D (dctx : Nat)
  /-- CVT.F32.I16.DC, R182. -/
  | cvtF32I16Dc (dctx : Nat)
  /-- CVT.F32.I8, R183. -/
  | cvtF32I8 (dctx : Nat)
  /-- CVT.F32.I8.C, R184. -/
  | cvtF32I8C (dctx : Nat)
  /-- CVT.F32.I8.D, R185. -/
  | cvtF32I8D (dctx : Nat)
  /-- CVT.F32.I8.DC, R186. -/
  | cvtF32I8Dc (dctx : Nat)
  /-- CVT.F32.U8, R187. -/
  | cvtF32U8 (dctx : Nat)
  /-- CVT.F32.U8.C, R188. -/
  | cvtF32U8C (dctx : Nat)
  /-- CVT.F32.U8.D, R189. -/
  | cvtF32U8D (dctx : Nat)
  /-- CVT.F32.U8.DC, R190. -/
  | cvtF32U8Dc (dctx : Nat)
  /-- CVT.I32.F32, R201. -/
  | cvtI32F32 (dctx : Nat)
  /-- COPY.I32, R262. -/
  | copyI32 (dctx : Nat)
  /-- CVT.I32.I24, R231. -/
  | cvtI32I24 (dctx : Nat)
  /-- CVT.I32.I24.D, R245. -/
  | cvtI32I24D (dctx : Nat)
  /-- CVT.I32.I16, R232. -/
  | cvtI32I16 (dctx : Nat)
  /-- CVT.I32.I16.D, R241. -/
  | cvtI32I16D (dctx : Nat)
  /-- CVT.I32.I8, R233. -/
  | cvtI32I8 (dctx : Nat)
  /-- CVT.I32.I8.D, R242. -/
  | cvtI32I8D (dctx : Nat)
  /-- CVT.I32.U8, R234. -/
  | cvtI32U8 (dctx : Nat)
  /-- CVT.I32.U8.D, R246. -/
  | cvtI32U8D (dctx : Nat)
  /-- CVT.I24.F32, R202. -/
  | cvtI24F32 (dctx : Nat)
  /-- CVT.I24.I32, R207. -/
  | cvtI24I32 (dctx : Nat)
  /-- COPY.I24, R263. -/
  | copyI24 (dctx : Nat)
  /-- CVT.I24.I16, R235. -/
  | cvtI24I16 (dctx : Nat)
  /-- CVT.I24.I16.D, R243. -/
  | cvtI24I16D (dctx : Nat)
  /-- CVT.I24.I8, R236. -/
  | cvtI24I8 (dctx : Nat)
  /-- CVT.I24.I8.D, R247. -/
  | cvtI24I8D (dctx : Nat)
  /-- CVT.I24.U8, R237. -/
  | cvtI24U8 (dctx : Nat)
  /-- CVT.I24.U8.D, R248. -/
  | cvtI24U8D (dctx : Nat)
  /-- CVT.I16.F32, R203. -/
  | cvtI16F32 (dctx : Nat)
  /-- CVT.I16.I32, R208. -/
  | cvtI16I32 (dctx : Nat)
  /-- CVT.I16.I24, R209. -/
  | cvtI16I24 (dctx : Nat)
  /-- COPY.I16, R264. -/
  | copyI16 (dctx : Nat)
  /-- CVT.I16.I8, R238. -/
  | cvtI16I8 (dctx : Nat)
  /-- CVT.I16.I8.D, R249. -/
  | cvtI16I8D (dctx : Nat)
  /-- CVT.I16.U8, R239. -/
  | cvtI16U8 (dctx : Nat)
  /-- CVT.I16.U8.D, R250. -/
  | cvtI16U8D (dctx : Nat)
  /-- CVT.I8.F32, R204. -/
  | cvtI8F32 (dctx : Nat)
  /-- CVT.I8.I32, R210. -/
  | cvtI8I32 (dctx : Nat)
  /-- CVT.I8.I24, R211. -/
  | cvtI8I24 (dctx : Nat)
  /-- CVT.I8.I16, R212. -/
  | cvtI8I16 (dctx : Nat)
  /-- COPY.I8, R265. -/
  | copyI8 (dctx : Nat)
  /-- CVT.I8.U8, R213. -/
  | cvtI8U8 (dctx : Nat)
  /-- CVT.U8.F32, R205. -/
  | cvtU8F32 (dctx : Nat)
  /-- CVT.U8.I32, R214. -/
  | cvtU8I32 (dctx : Nat)
  /-- CVT.U8.I24, R215. -/
  | cvtU8I24 (dctx : Nat)
  /-- CVT.U8.I16, R216. -/
  | cvtU8I16 (dctx : Nat)
  /-- CVT.U8.I8, R217. -/
  | cvtU8I8 (dctx : Nat)
  /-- COPY.U8, R266. -/
  | copyU8 (dctx : Nat)
  /-- ZERO.F32, R268. -/
  | zeroF32
  /-- ZERO.I32, R269. -/
  | zeroI32
  /-- ZERO.I24, R270. -/
  | zeroI24
  /-- ZERO.I16, R271. -/
  | zeroI16
  /-- ZERO.I8, R272. -/
  | zeroI8
  /-- ZERO.U8, R273. -/
  | zeroU8
  /-- RESOLVE, R133. -/
  | resolve (clipOff ditherOff : Bool)
  /-- SELFMT, R121. -/
  | selfmt
  /-- DINIT, R105. -/
  | dinit (dctx : Nat)
  /-- DITHER16, R106. -/
  | dither16 (dctx : Nat)
  /-- DITHERF, R107. -/
  | ditherf (dctx : Nat)
  /-- VDITHER16, R108. -/
  | vdither16 (dctx : Nat)
  /-- VDITHERF, R109. -/
  | vditherf (dctx : Nat)
  /-- SETCTRL, R280. -/
  | setctrl (accel : Bool)
deriving DecidableEq, Repr

end Sys2Proof
end

