-- ==== Sys2Proof/WellFormed.lean ====
section
/-! DEFINITION. Well-formed commands: the one field of a command that its constructor does not bound by its type is the
context index, which must fit the eight bits of DCTX (R71, R77). Whether the context exists (DCTX below N_DCTX) is the
command's own check (R306), not a matter of form. -/

namespace Sys2Proof

/-- The context index a command carries, where its word has a DCTX field that may be non-zero (R77). -/
def dctxOf : Instr → Option Nat
  | .copyF32 k => some k
  | .cvtF32I32 k => some k
  | .cvtF32I32C k => some k
  | .cvtF32I32D k => some k
  | .cvtF32I32Dc k => some k
  | .cvtF32I24 k => some k
  | .cvtF32I24C k => some k
  | .cvtF32I24D k => some k
  | .cvtF32I24Dc k => some k
  | .cvtF32I16 k => some k
  | .cvtF32I16C k => some k
  | .cvtF32I16D k => some k
  | .cvtF32I16Dc k => some k
  | .cvtF32I8 k => some k
  | .cvtF32I8C k => some k
  | .cvtF32I8D k => some k
  | .cvtF32I8Dc k => some k
  | .cvtF32U8 k => some k
  | .cvtF32U8C k => some k
  | .cvtF32U8D k => some k
  | .cvtF32U8Dc k => some k
  | .cvtI32F32 k => some k
  | .copyI32 k => some k
  | .cvtI32I24 k => some k
  | .cvtI32I24D k => some k
  | .cvtI32I16 k => some k
  | .cvtI32I16D k => some k
  | .cvtI32I8 k => some k
  | .cvtI32I8D k => some k
  | .cvtI32U8 k => some k
  | .cvtI32U8D k => some k
  | .cvtI24F32 k => some k
  | .cvtI24I32 k => some k
  | .copyI24 k => some k
  | .cvtI24I16 k => some k
  | .cvtI24I16D k => some k
  | .cvtI24I8 k => some k
  | .cvtI24I8D k => some k
  | .cvtI24U8 k => some k
  | .cvtI24U8D k => some k
  | .cvtI16F32 k => some k
  | .cvtI16I32 k => some k
  | .cvtI16I24 k => some k
  | .copyI16 k => some k
  | .cvtI16I8 k => some k
  | .cvtI16I8D k => some k
  | .cvtI16U8 k => some k
  | .cvtI16U8D k => some k
  | .cvtI8F32 k => some k
  | .cvtI8I32 k => some k
  | .cvtI8I24 k => some k
  | .cvtI8I16 k => some k
  | .copyI8 k => some k
  | .cvtI8U8 k => some k
  | .cvtU8F32 k => some k
  | .cvtU8I32 k => some k
  | .cvtU8I24 k => some k
  | .cvtU8I16 k => some k
  | .cvtU8I8 k => some k
  | .copyU8 k => some k
  | .zeroF32 => none
  | .zeroI32 => none
  | .zeroI24 => none
  | .zeroI16 => none
  | .zeroI8 => none
  | .zeroU8 => none
  | .resolve _ _ => none
  | .selfmt => none
  | .dinit k => some k
  | .dither16 k => some k
  | .ditherf k => some k
  | .vdither16 k => some k
  | .vditherf k => some k
  | .setctrl _ => none

/-- A context index fits its field DCTX, W[23:16]. -/
abbrev fitsDctx (k : Nat) : Prop := k < 256

/-- A command is well formed when its context index, if it has one, fits DCTX. -/
abbrev WellFormed (i : Instr) : Prop := ∀ k ∈ dctxOf i, fitsDctx k

end Sys2Proof
end

