-- ==== Sys2Proof/Decode.lean ====
section
/-! DEFINITION. The decoder and the encoder of command words (R71 to R79). `decode` is total on 32-bit words and answers a
command or the reason the word is illegal (R79); `encode` writes a command's word from the same tables. That each
constructor's word decodes to it is shown on words written out from R75 and R84 in Sys2Proof/Tests/Slice0.lean. -/

namespace Sys2Proof

/-- Why a word is illegal (R79). Every reason has the one outcome ILLEGAL_COMMAND, so which is named first cannot be seen
(log 18). -/
inductive IllegalWord where
  /-- W[31:24] is not 0. -/
  | reservedBits
  /-- OPC is 0x00 or 0x0B to 0xFF. -/
  | reservedOpcode
  /-- FN is outside the legal set of R73 for the OPC. -/
  | badFunction
  /-- DCTX is not 0 on ZERO, RESOLVE, SELFMT or SETCTRL. -/
  | contextNotZero
deriving DecidableEq, Repr

/-- What a command word is: a command, or illegal for a reason. -/
inductive Decoded where
  | command (i : Instr)
  | illegal (why : IllegalWord)
deriving DecidableEq, Repr

/-- OPC, W[7:0] (R71). -/
def opcField (w : Word) : Nat := (w.extractLsb' 0 8).toNat

/-- FN, W[15:8] (R71). -/
def fnField (w : Word) : Nat := (w.extractLsb' 8 8).toNat

/-- DCTX, W[23:16] (R71). -/
def dctxField (w : Word) : Nat := (w.extractLsb' 16 8).toNat

/-- ZERO, W[31:24], reserved (R71). -/
def zeroField (w : Word) : Nat := (w.extractLsb' 24 8).toNat

/-- The 60 legal CONVIDs of a RUN (R75) and the converter each names; `none` for a reserved value. -/
def decodeConvId (convId k : Nat) : Option Instr :=
  match convId with
  | 0x00 => some (.copyF32 k)
  | 0x04 => some (.cvtF32I32 k)
  | 0x05 => some (.cvtF32I32C k)
  | 0x06 => some (.cvtF32I32D k)
  | 0x07 => some (.cvtF32I32Dc k)
  | 0x08 => some (.cvtF32I24 k)
  | 0x09 => some (.cvtF32I24C k)
  | 0x0A => some (.cvtF32I24D k)
  | 0x0B => some (.cvtF32I24Dc k)
  | 0x0C => some (.cvtF32I16 k)
  | 0x0D => some (.cvtF32I16C k)
  | 0x0E => some (.cvtF32I16D k)
  | 0x0F => some (.cvtF32I16Dc k)
  | 0x10 => some (.cvtF32I8 k)
  | 0x11 => some (.cvtF32I8C k)
  | 0x12 => some (.cvtF32I8D k)
  | 0x13 => some (.cvtF32I8Dc k)
  | 0x14 => some (.cvtF32U8 k)
  | 0x15 => some (.cvtF32U8C k)
  | 0x16 => some (.cvtF32U8D k)
  | 0x17 => some (.cvtF32U8Dc k)
  | 0x20 => some (.cvtI32F32 k)
  | 0x24 => some (.copyI32 k)
  | 0x28 => some (.cvtI32I24 k)
  | 0x2A => some (.cvtI32I24D k)
  | 0x2C => some (.cvtI32I16 k)
  | 0x2E => some (.cvtI32I16D k)
  | 0x30 => some (.cvtI32I8 k)
  | 0x32 => some (.cvtI32I8D k)
  | 0x34 => some (.cvtI32U8 k)
  | 0x36 => some (.cvtI32U8D k)
  | 0x40 => some (.cvtI24F32 k)
  | 0x44 => some (.cvtI24I32 k)
  | 0x48 => some (.copyI24 k)
  | 0x4C => some (.cvtI24I16 k)
  | 0x4E => some (.cvtI24I16D k)
  | 0x50 => some (.cvtI24I8 k)
  | 0x52 => some (.cvtI24I8D k)
  | 0x54 => some (.cvtI24U8 k)
  | 0x56 => some (.cvtI24U8D k)
  | 0x60 => some (.cvtI16F32 k)
  | 0x64 => some (.cvtI16I32 k)
  | 0x68 => some (.cvtI16I24 k)
  | 0x6C => some (.copyI16 k)
  | 0x70 => some (.cvtI16I8 k)
  | 0x72 => some (.cvtI16I8D k)
  | 0x74 => some (.cvtI16U8 k)
  | 0x76 => some (.cvtI16U8D k)
  | 0x80 => some (.cvtI8F32 k)
  | 0x84 => some (.cvtI8I32 k)
  | 0x88 => some (.cvtI8I24 k)
  | 0x8C => some (.cvtI8I16 k)
  | 0x90 => some (.copyI8 k)
  | 0x94 => some (.cvtI8U8 k)
  | 0xA0 => some (.cvtU8F32 k)
  | 0xA4 => some (.cvtU8I32 k)
  | 0xA8 => some (.cvtU8I24 k)
  | 0xAC => some (.cvtU8I16 k)
  | 0xB0 => some (.cvtU8I8 k)
  | 0xB4 => some (.copyU8 k)
  | _ => none

/-- FN of a ZERO is the format ordinal, 0 to 5 (R73). -/
def decodeZero (fn : Nat) : Option Instr :=
  match fn with
  | 0 => some .zeroF32
  | 1 => some .zeroI32
  | 2 => some .zeroI24
  | 3 => some .zeroI16
  | 4 => some .zeroI8
  | 5 => some .zeroU8
  | _ => none

/-- FN of a RESOLVE: FN[0] = CLIPOFF, FN[1] = DITHEROFF, FN[7:2] = 0 (R73). -/
def decodeResolve (fn : Nat) : Option Instr :=
  match fn with
  | 0 => some (.resolve false false)
  | 1 => some (.resolve true false)
  | 2 => some (.resolve false true)
  | 3 => some (.resolve true true)
  | _ => none

/-- FN of a SETCTRL: FN[0] is the new CTRL.ACCEL, FN[7:1] = 0 (R73). -/
def decodeSetctrl (fn : Nat) : Option Instr :=
  match fn with
  | 0 => some (.setctrl false)
  | 1 => some (.setctrl true)
  | _ => none

/-- A command whose FN is unused and must be 0 (R73). -/
def decodeUnusedFn (fn : Nat) (i : Instr) : Option Instr :=
  match fn with
  | 0 => some i
  | _ => none

/-- A command that takes a legal FN, or the word is illegal. -/
def withFunction (i : Option Instr) : Decoded :=
  match i with
  | some i => .command i
  | none => .illegal .badFunction

/-- A command that uses no context: DCTX must be 0 (R77). -/
def withoutContext (k : Nat) (i : Option Instr) : Decoded :=
  if k = 0 then withFunction i else .illegal .contextNotZero

/-- The opcode map (R72). -/
def decodeOpcode (opc fn k : Nat) : Decoded :=
  match opc with
  | 0x01 => withFunction (decodeConvId fn k)
  | 0x02 => withoutContext k (decodeZero fn)
  | 0x03 => withoutContext k (decodeResolve fn)
  | 0x04 => withoutContext k (decodeUnusedFn fn .selfmt)
  | 0x05 => withFunction (decodeUnusedFn fn (.dinit k))
  | 0x06 => withFunction (decodeUnusedFn fn (.dither16 k))
  | 0x07 => withFunction (decodeUnusedFn fn (.ditherf k))
  | 0x08 => withFunction (decodeUnusedFn fn (.vdither16 k))
  | 0x09 => withFunction (decodeUnusedFn fn (.vditherf k))
  | 0x0A => withoutContext k (decodeSetctrl fn)
  | _ => .illegal .reservedOpcode

/-- The decoder (R71, R72, R79). -/
def decode (w : Word) : Decoded :=
  if zeroField w = 0 then decodeOpcode (opcField w) (fnField w) (dctxField w) else .illegal .reservedBits

/-- A command word from its fields, bits 31:24 zero (R71); a field keeps its low eight bits. -/
def commandWord (opc fn k : Nat) : Word :=
  0#8 ++ BitVec.ofNat 8 k ++ BitVec.ofNat 8 fn ++ BitVec.ofNat 8 opc

/-- FN of a RESOLVE from its two flags (R73, R77). -/
def resolveFn (clipOff ditherOff : Bool) : Nat := clipOff.toNat + 2 * ditherOff.toNat

/-- The encoder: the command word of a well-formed command (R71 to R75). -/
def encode : Instr → Word
  | .copyF32 k => commandWord 0x01 0x00 k
  | .cvtF32I32 k => commandWord 0x01 0x04 k
  | .cvtF32I32C k => commandWord 0x01 0x05 k
  | .cvtF32I32D k => commandWord 0x01 0x06 k
  | .cvtF32I32Dc k => commandWord 0x01 0x07 k
  | .cvtF32I24 k => commandWord 0x01 0x08 k
  | .cvtF32I24C k => commandWord 0x01 0x09 k
  | .cvtF32I24D k => commandWord 0x01 0x0A k
  | .cvtF32I24Dc k => commandWord 0x01 0x0B k
  | .cvtF32I16 k => commandWord 0x01 0x0C k
  | .cvtF32I16C k => commandWord 0x01 0x0D k
  | .cvtF32I16D k => commandWord 0x01 0x0E k
  | .cvtF32I16Dc k => commandWord 0x01 0x0F k
  | .cvtF32I8 k => commandWord 0x01 0x10 k
  | .cvtF32I8C k => commandWord 0x01 0x11 k
  | .cvtF32I8D k => commandWord 0x01 0x12 k
  | .cvtF32I8Dc k => commandWord 0x01 0x13 k
  | .cvtF32U8 k => commandWord 0x01 0x14 k
  | .cvtF32U8C k => commandWord 0x01 0x15 k
  | .cvtF32U8D k => commandWord 0x01 0x16 k
  | .cvtF32U8Dc k => commandWord 0x01 0x17 k
  | .cvtI32F32 k => commandWord 0x01 0x20 k
  | .copyI32 k => commandWord 0x01 0x24 k
  | .cvtI32I24 k => commandWord 0x01 0x28 k
  | .cvtI32I24D k => commandWord 0x01 0x2A k
  | .cvtI32I16 k => commandWord 0x01 0x2C k
  | .cvtI32I16D k => commandWord 0x01 0x2E k
  | .cvtI32I8 k => commandWord 0x01 0x30 k
  | .cvtI32I8D k => commandWord 0x01 0x32 k
  | .cvtI32U8 k => commandWord 0x01 0x34 k
  | .cvtI32U8D k => commandWord 0x01 0x36 k
  | .cvtI24F32 k => commandWord 0x01 0x40 k
  | .cvtI24I32 k => commandWord 0x01 0x44 k
  | .copyI24 k => commandWord 0x01 0x48 k
  | .cvtI24I16 k => commandWord 0x01 0x4C k
  | .cvtI24I16D k => commandWord 0x01 0x4E k
  | .cvtI24I8 k => commandWord 0x01 0x50 k
  | .cvtI24I8D k => commandWord 0x01 0x52 k
  | .cvtI24U8 k => commandWord 0x01 0x54 k
  | .cvtI24U8D k => commandWord 0x01 0x56 k
  | .cvtI16F32 k => commandWord 0x01 0x60 k
  | .cvtI16I32 k => commandWord 0x01 0x64 k
  | .cvtI16I24 k => commandWord 0x01 0x68 k
  | .copyI16 k => commandWord 0x01 0x6C k
  | .cvtI16I8 k => commandWord 0x01 0x70 k
  | .cvtI16I8D k => commandWord 0x01 0x72 k
  | .cvtI16U8 k => commandWord 0x01 0x74 k
  | .cvtI16U8D k => commandWord 0x01 0x76 k
  | .cvtI8F32 k => commandWord 0x01 0x80 k
  | .cvtI8I32 k => commandWord 0x01 0x84 k
  | .cvtI8I24 k => commandWord 0x01 0x88 k
  | .cvtI8I16 k => commandWord 0x01 0x8C k
  | .copyI8 k => commandWord 0x01 0x90 k
  | .cvtI8U8 k => commandWord 0x01 0x94 k
  | .cvtU8F32 k => commandWord 0x01 0xA0 k
  | .cvtU8I32 k => commandWord 0x01 0xA4 k
  | .cvtU8I24 k => commandWord 0x01 0xA8 k
  | .cvtU8I16 k => commandWord 0x01 0xAC k
  | .cvtU8I8 k => commandWord 0x01 0xB0 k
  | .copyU8 k => commandWord 0x01 0xB4 k
  | .zeroF32 => commandWord 0x02 0 0
  | .zeroI32 => commandWord 0x02 1 0
  | .zeroI24 => commandWord 0x02 2 0
  | .zeroI16 => commandWord 0x02 3 0
  | .zeroI8 => commandWord 0x02 4 0
  | .zeroU8 => commandWord 0x02 5 0
  | .resolve c d => commandWord 0x03 (resolveFn c d) 0
  | .selfmt => commandWord 0x04 0 0
  | .dinit k => commandWord 0x05 0 k
  | .dither16 k => commandWord 0x06 0 k
  | .ditherf k => commandWord 0x07 0 k
  | .vdither16 k => commandWord 0x08 0 k
  | .vditherf k => commandWord 0x09 0 k
  | .setctrl a => commandWord 0x0A a.toNat 0

/-- The command that the decoder reads from the word whose low `nbits` bits are `w`'s and whose other bits are 0, numbered
as spec/opcode_table.json numbers them; `none` where the word is illegal. A command is one 32-bit word (R70), so a number
that needs more bits is no word. -/
def decodeTableWord (nbits w : Nat) : Option Instr :=
  let v := w % 2 ^ nbits
  if v < 2 ^ 32 then
    match decode (BitVec.ofNat 32 v) with
    | .command i => some i
    | .illegal _ => none
  else none

end Sys2Proof
end

