-- ==== Sys2Proof/Config.lean ====
section
/-! DEFINITION. What an implementation fixes (R6): the constants that the spec fixes or decides, the OPEN parameters of one
instance with their defaults, and the one free value of the model. -/

namespace Sys2Proof.Config

/-- ADDR_BITS, 32 or 64 (R6, R50). -/
inductive AddrBits where
  | b32 | b64
deriving DecidableEq, Repr

/-- The number of bits of an address, a stride and a count. -/
def AddrBits.toNat : AddrBits → Nat
  | .b32 => 32
  | .b64 => 64

/-- FALLBACK_UP: which better format the selector picks (R6, R123). -/
inductive FallbackUp where
  | nearest | best
deriving DecidableEq, Repr

/-- The OPEN parameters of R6. They are plain data of one instance that no step changes (log 2); N_DCTX is the length of the
context file. -/
structure Params where
  addrBits   : AddrBits
  bigEndian  : Bool
  seedAInit  : Word
  seedBInit  : Word
  prevInit   : Word
  fallbackUp : FallbackUp
deriving DecidableEq, Repr

/-- The defaults of R6. -/
def defaultParams : Params :=
  { addrBits := .b32, bigEndian := false, seedAInit := 22222, seedBInit := 5555555, prevInit := 0,
    fallbackUp := .nearest }

/-- N_DCTX of the instance that `State.reset` describes (R6: default 4). -/
def defaultContexts : Nat := 4

/-- LCG_A (R6, R100). -/
def lcgA : Word := 196314165

/-- LCG_C (R6, R100). -/
def lcgC : Word := 907633515

/-- DITHER_SHIFT = WORD_BITS - DITHER_BITS + 1 = 18 (R6, R101). -/
def ditherShift : Nat := 32 - 15 + 1

/-- The denominator of DITHER_SCALE = 1/32767 (R6, R107). -/
def ditherDenominator : Nat := 32767

/-- LANES (R6). -/
def lanes : Nat := 4

/-- ACCEL_RESET (R6): the reset value of CTRL.ACCEL. -/
def accelReset : Word := 0

/-- TOL24 (R6, R282). -/
def tol24 : Nat := 1

/-- TOL32D (R6, R282). -/
def tol32D : Nat := 3

/-- UNIMPL (R6, R134): the pairs whose dithering variant is not implemented. -/
def unimpl : List (Format × Format) :=
  [(.i32, .i24), (.i32, .u8), (.i24, .i8), (.i24, .u8), (.i16, .i8), (.i16, .u8)]

/-- What a byte of memory that nothing has written reads as. R340: "contents are the platform's"; DESIGN CHOICE, unsafe
(log 4). -/
def memFill : Byte := 0

/-- The free value behind `draw` (R11): the value of the n-th draw of a run. It has no body, so nothing can be proved of it
(log 10). -/
opaque draw : Nat → Word

end Sys2Proof.Config
end

