-- ==== Sys2Proof/Machine/State.lean ====
section
/-! DEFINITION. The state of the block as plain data (R20 to R33), the platform's memory (R31), the host's pending actions,
the reset state (R340), the reasons a step can stop, and one setter for each field. -/

namespace Sys2Proof.Machine

/-- One dither context DS[k] (R26). PREV holds the previous sum (spec/90_conflicts.md C3). -/
structure DitherCtx where
  seedA : Word
  seedB : Word
  prev  : Word
deriving DecidableEq, Repr

/-- The working registers of a RUN or ZERO command (R28); log 8. -/
structure Work where
  /-- SP, the address of the next source element. -/
  sp : Addr
  /-- DP, the address of the next destination element. -/
  dp : Addr
  /-- N, the samples still to do. -/
  n  : Addr
deriving DecidableEq, Repr

/-- A region of memory the host has allocated for a buffer (R60): `size` bytes from `base` on; log 5. -/
structure Region where
  base : Nat
  size : Nat
deriving DecidableEq, Repr

/-- What the host does between two commands (R32, R60, R62, R341); log 1. A read has no side effect and is no action. -/
inductive HostAction where
  /-- A write of a value to a register number (R32); number 0 is W and starts a command. -/
  | writeReg (number : Nat) (value : BitVec 64)
  /-- A write of bytes to the host's memory, ascending from an address (R31, R62). -/
  | writeMem (address : Nat) (bytes : List Byte)
  /-- Memory is allocated for a buffer (R60). -/
  | allocate (region : Region)
  /-- A buffer's memory is given back: one listed region equal to this one is taken off; log 20. -/
  | release (region : Region)
  /-- The reset event, which can occur only between commands (R341). -/
  | reset
deriving DecidableEq, Repr

/-- The state. `mem` and `alloc` belong to the platform (R31, R65); `params`, `draws` and `host` are the model's own. -/
structure State where
  /-- The OPEN parameters of the instance (R6), which no step changes; log 2. -/
  params : Config.Params
  /-- W, the command register (R21). -/
  w : Word
  /-- A0 to A4, the operand registers, ADDR_BITS bits each (R22). -/
  a0 : Addr
  a1 : Addr
  a2 : Addr
  a3 : Addr
  a4 : Addr
  /-- CTRL (R23): bit 0 is ACCEL, bits 31:1 are reserved and 0. -/
  ctrl : Word
  /-- STATUS (R24): the outcome code of the last command. -/
  status : Word
  /-- RESULT0 to RESULT3 (R25). -/
  result0 : Word
  result1 : Word
  result2 : Word
  result3 : Word
  /-- DS, the dither context file (R26); its length is N_DCTX. -/
  ds : List DitherCtx
  /-- SP, DP and N (R28); log 8. -/
  work : Work
  /-- The platform's memory (R31), in the canonical form of `Memory.wf`. -/
  mem : List Host.Cell
  /-- The memory the host has allocated (R60); log 5. -/
  alloc : List Region
  /-- The number of free values taken so far; log 10. -/
  draws : Nat
  /-- The host's actions still to come, the next one first; log 1. -/
  host : List HostAction
deriving DecidableEq, Repr

/-- Why the machine stops with a fault. The block itself has none (R301); the one fault is the platform's. -/
inductive Fault where
  /-- Raised by a host write to memory at an address that does not exist, 2^ADDR_BITS or above (R31, R50). Safe: the spec
  gives such an address no byte; log 14. -/
  | hostWriteOutsideSpace
deriving DecidableEq, Repr

/-- Why a command has no meaning. The four buffer reasons are the spec's `refuse` (R11, R59, R60, R315). -/
inductive Refusal where
  /-- Raised by `exec` alone, for an instruction without a meaning. Safe. -/
  | notModelled (mnemonic : String)
  /-- Raised by RUN and ZERO on a buffer base that is not a multiple of its alignment (R59). Safe. -/
  | misalignedBuffer
  /-- Raised by RUN and ZERO when the last byte of a view lies at 2^ADDR_BITS or above (R60, R28). Safe. -/
  | bufferWraps
  /-- Raised by RUN and ZERO when a byte of a view is not allocated (R60). Safe. -/
  | bufferUnallocated
  /-- Raised by RUN when a byte it writes is a byte it reads (R60, R356). Safe. -/
  | buffersOverlap
deriving DecidableEq, Repr

/-- A context as reset and DINIT leave it (R105, R340). -/
def initialCtx (p : Config.Params) : DitherCtx :=
  { seedA := p.seedAInit, seedB := p.seedBInit, prev := p.prevInit }

/-- The block right after reset (R340) with the default parameters (R6), memory with nothing listed (log 4), the whole
address space allocated (log 5), no free value taken (log 10) and no host action pending (log 1). -/
def State.reset : State :=
  { params := Config.defaultParams
    w := 0
    a0 := 0
    a1 := 0
    a2 := 0
    a3 := 0
    a4 := 0
    ctrl := Config.accelReset
    status := 0
    result0 := 0
    result1 := 0
    result2 := 0
    result3 := 0
    ds := List.replicate Config.defaultContexts (initialCtx Config.defaultParams)
    work := { sp := 0, dp := 0, n := 0 }
    mem := []
    alloc := [{ base := 0, size := 2 ^ Config.defaultParams.addrBits.toNat }]
    draws := 0
    host := [] }

namespace State

/-- Replace W. -/
def setW (s : State) (v : Word) : State := { s with w := v }

/-- Replace A0. -/
def setA0 (s : State) (v : Addr) : State := { s with a0 := v }

/-- Replace A1. -/
def setA1 (s : State) (v : Addr) : State := { s with a1 := v }

/-- Replace A2. -/
def setA2 (s : State) (v : Addr) : State := { s with a2 := v }

/-- Replace A3. -/
def setA3 (s : State) (v : Addr) : State := { s with a3 := v }

/-- Replace A4. -/
def setA4 (s : State) (v : Addr) : State := { s with a4 := v }

/-- Replace CTRL. -/
def setCtrl (s : State) (v : Word) : State := { s with ctrl := v }

/-- Replace STATUS. -/
def setStatus (s : State) (v : Word) : State := { s with status := v }

/-- Replace RESULT0. -/
def setResult0 (s : State) (v : Word) : State := { s with result0 := v }

/-- Replace RESULT1. -/
def setResult1 (s : State) (v : Word) : State := { s with result1 := v }

/-- Replace RESULT2. -/
def setResult2 (s : State) (v : Word) : State := { s with result2 := v }

/-- Replace RESULT3. -/
def setResult3 (s : State) (v : Word) : State := { s with result3 := v }

/-- Replace the context file. -/
def setDs (s : State) (v : List DitherCtx) : State := { s with ds := v }

/-- Replace the working registers. -/
def setWork (s : State) (v : Work) : State := { s with work := v }

/-- Replace memory. -/
def setMem (s : State) (v : List Host.Cell) : State := { s with mem := v }

/-- Replace the allocated regions. -/
def setAlloc (s : State) (v : List Region) : State := { s with alloc := v }

/-- Replace the draw counter. -/
def setDraws (s : State) (v : Nat) : State := { s with draws := v }

/-- Replace the pending host actions. -/
def setHost (s : State) (v : List HostAction) : State := { s with host := v }

end State

end Sys2Proof.Machine
end

