-- ==== Sys2Proof/Machine/Operands.lean ====
section
/-! DEFINITION. Operands: formats and their numbers (R12, R52, R59), element addresses (R53), bit patterns and logical values
(R8, R13, R58, R155), SampleFormat words (R76) and the integer operands of the registers (R78). -/

namespace Sys2Proof.Machine

/-- The ordinal of a format (R12). -/
def ordinal : Format → Nat
  | .f32 => 0
  | .i32 => 1
  | .i24 => 2
  | .i16 => 3
  | .i8 => 4
  | .u8 => 5

/-- The size of an element in bytes (R12, R52). -/
def elemSize : Format → Nat
  | .f32 => 4
  | .i32 => 4
  | .i24 => 3
  | .i16 => 2
  | .i8 => 1
  | .u8 => 1

/-- The bits of a sample (R12). -/
def sampleBits (f : Format) : Nat := 8 * elemSize f

/-- What the base address of a buffer must be a multiple of (R59). -/
def baseAlign : Format → Nat
  | .f32 => 4
  | .i32 => 4
  | .i24 => 1
  | .i16 => 2
  | .i8 => 1
  | .u8 => 1

/-- The byte address of element `i` of a view (R53): base + i × stride × size. -/
def elemAddr (base stride size i : Nat) : Nat := base + i * stride * size

/-- `s_N` of a pattern (R8): its low N bits read as signed. -/
def signedBits (bits : Nat) (p : Word) : Int := (p.setWidth bits).toInt

/-- A pattern cut to the low `bits` bits, zero above them. -/
def keepBits (bits : Nat) (p : Word) : Word := (p.setWidth bits).setWidth 32

/-- `u_N` of an integer as a pattern (R8): its low N bits. -/
def bitsOfInt (bits : Nat) (r : Int) : Word := (BitVec.ofInt bits r).setWidth 32

/-- The logical value of an integer sample's pattern (R13, R58). The spec gives a Float32 pattern none; no rule asks for it,
and the answer here is the pattern read as signed. -/
def logicalValue (f : Format) (p : Word) : Int :=
  match f with
  | .u8 => (keepBits 8 p).toNat - 128
  | f => signedBits (sampleBits f) p

/-- The pattern of a logical value in an integer format (R155). -/
def patternOf (f : Format) (r : Int) : Word :=
  match f with
  | .u8 => bitsOfInt 8 (r + 128)
  | f => bitsOfInt (sampleBits f) r

/-- The left-justified 32-bit value `L32` of a logical value of `bits` sample bits (R13). -/
def leftJustified (bits : Nat) (n : Int) : Int := n * 2 ^ (32 - bits)

/-- The least logical value of an integer format. -/
def leastLogical (f : Format) : Int := -2 ^ (sampleBits f - 1)

/-- The greatest logical value of an integer format. -/
def greatestLogical (f : Format) : Int := 2 ^ (sampleBits f - 1) - 1

/-- The low 32 bits of an operand register: a SampleFormat word (R76). -/
def formatWord (a : Addr) : Word := a.setWidth 32

/-- A SampleFormat word without its NONINTERLEAVED bit (R76, R120, R131). -/
def stripInterleave (w : Word) : Word := w &&& 0x7FFFFFFF

/-- The format a SampleFormat word names when it is a valid single format (R76). -/
def singleFormat (w : Word) : Option Format :=
  match (stripInterleave w).toNat with
  | 0x01 => some .f32
  | 0x02 => some .i32
  | 0x04 => some .i24
  | 0x08 => some .i16
  | 0x10 => some .i8
  | 0x20 => some .u8
  | _ => none

/-- CTRL.ACCEL (R23). -/
def accelOn (s : State) : Bool := s.ctrl.getLsbD 0

/-- The number of bytes of memory, 2^ADDR_BITS (R31, R50). -/
def spaceSize (p : Config.Params) : Nat := 2 ^ p.addrBits.toNat

/-- A number cut to the width of an address register (R22, R28). -/
def truncAddr (p : Config.Params) (x : Nat) : Addr := BitVec.ofNat 64 (x % spaceSize p)

end Sys2Proof.Machine
end

