-- ==== Sys2Proof/Machine/Flags.lean ====
section
/-! DEFINITION. The block has no condition code, carry, overflow flag or predicate (R30). What it has in their place is the
outcome code that every command writes to STATUS (R24, R300). -/

namespace Sys2Proof.Machine

/-- The outcome codes (R300). -/
inductive Code where
  | ok
  | notSupported
  | notImplemented
  | illegalCommand
  | badOperand
deriving DecidableEq, Repr

/-- The number of an outcome code in STATUS (R24, R300). -/
def codeWord : Code → Word
  | .ok => 0
  | .notSupported => 1
  | .notImplemented => 2
  | .illegalCommand => 3
  | .badOperand => 4

end Sys2Proof.Machine
end

