-- ==== Sys2Proof/Machine/Float.lean ====
section
/-! DEFINITION. Rationals and binary32 (R8, R9): the value of a pattern, truncation, clamping and the one rounding. All
arithmetic is exact on rationals (spec/92_eei_decisions.md D21). -/

namespace Sys2Proof.Machine

/-- The value of a binary32 pattern (R9). -/
inductive FloatValue where
  | nan
  | posInf
  | negInf
  | finite (q : Rat)
deriving DecidableEq, Repr

/-- 2^e for any integer e. -/
def powTwo (e : Int) : Rat := if 0 ≤ e then mkRat (2 ^ e.toNat) 1 else mkRat 1 (2 ^ (-e).toNat)

/-- The sign bit, b[31] (R9). -/
def signBit (b : Word) : Bool := b.getLsbD 31

/-- The exponent field, b[30:23] (R9). -/
def exponentField (b : Word) : Nat := (b.extractLsb' 23 8).toNat

/-- The fraction field, b[22:0] (R9). -/
def fractionField (b : Word) : Nat := (b.extractLsb' 0 23).toNat

/-- A magnitude with a sign. -/
def withSign (negative : Bool) (q : Rat) : Rat := if negative then -q else q

/-- `fval` (R9). -/
def fval (b : Word) : FloatValue :=
  if exponentField b = 255 then
    if fractionField b = 0 then (if signBit b then .negInf else .posInf) else .nan
  else if exponentField b = 0 then
    .finite (withSign (signBit b) (mkRat (fractionField b) 1 * powTwo (-149)))
  else
    .finite (withSign (signBit b)
      (mkRat (2 ^ 23 + fractionField b) 1 * powTwo ((exponentField b : Int) - 150)))

/-- `trunc` (R8): toward zero. -/
def truncRat (q : Rat) : Int := if 0 ≤ q then q.floor else q.ceil

/-- `clamp` (R8). -/
def clampRat (q lo hi : Rat) : Rat := if q < lo then lo else if hi < q then hi else q

/-- The exponent of the binade of a positive rational, not below that of the subnormals: the greatest e with 2^e ≤ q, or -126,
found by descent from a start that is high enough. -/
def descendExponent (q : Rat) : Nat → Int → Int
  | 0, e => e
  | fuel + 1, e => if powTwo e ≤ q then e else descendExponent q fuel (e - 1)

/-- The binade of a positive rational; its numerator bounds the start of the descent. -/
def binade (q : Rat) : Int :=
  descendExponent q (q.num.natAbs.log2 + 126) q.num.natAbs.log2

/-- The integer nearest to a non-negative rational, ties to the even one. -/
def roundHalfEven (q : Rat) : Nat :=
  let n := q.floor.toNat
  let rest := q - mkRat n 1
  if rest < mkRat 1 2 then n
  else if mkRat 1 2 < rest then n + 1
  else if n % 2 = 0 then n else n + 1

/-- The pattern, without its sign, of the binary32 nearest to a positive rational (R9): exponent and fraction fields together,
so that a significand rounded up to 2^24 carries into the exponent. -/
def magnitudePattern (q : Rat) : Nat :=
  let e := binade q
  (e + 126).toNat * 2 ^ 23 + roundHalfEven (q * powTwo (23 - e))

/-- `rne32` (R9): nearest, ties to the even fraction; 0 gives +0; a magnitude that rounds below the smallest subnormal gives a
zero with the sign of q. No rule rounds a magnitude above 1 (R9); log 19. -/
def rne32 (q : Rat) : Word :=
  if q = 0 then 0
  else if q < 0 then 0x80000000 ||| BitVec.ofNat 32 (magnitudePattern (-q))
  else BitVec.ofNat 32 (magnitudePattern q)

end Sys2Proof.Machine
end

