-- ==== Sys2Proof/Machine/Ops.lean ====
section
/-! DEFINITION. The named operations over memory and registers: bytes and elements (R50 to R58), the outcome of a command
(R300 to R302), the dither step (R100 to R103), free values (R11, R282), the buffer contract (R59, R60) and the loops of RUN
and ZERO (R150, R267). -/

namespace Sys2Proof.Machine

/-! ## Bytes of memory -/

/-- The canonical form of memory: addresses strictly rising, and no byte listed that an unlisted address reads as. -/
abbrev Memory.wf (m : List Host.Cell) : Prop :=
  m.Pairwise (fun c d => c.1 < d.1) ∧ ∀ c ∈ m, c.2 ≠ Config.memFill

/-- Read one byte; an unlisted address reads as `Config.memFill` (log 4). -/
def readByte : List Host.Cell → Nat → Byte
  | [], _ => Config.memFill
  | (k, b) :: m, a => if a = k then b else readByte m a

/-- Write one byte, keeping the canonical form. -/
def writeByte : List Host.Cell → Nat → Byte → List Host.Cell
  | [], a, b => if b = Config.memFill then [] else [(a, b)]
  | (k, c) :: m, a, b =>
    if a < k then (if b = Config.memFill then (k, c) :: m else (a, b) :: (k, c) :: m)
    else if a = k then (if b = Config.memFill then m else (a, b) :: m)
    else (k, c) :: writeByte m a b

/-- `MemRead` (R10): n bytes, the lowest address first. -/
def readBytes (m : List Host.Cell) (a : Nat) : Nat → List Byte
  | 0 => []
  | n + 1 => readByte m a :: readBytes m (a + 1) n

/-- `MemWrite` (R10): a list of bytes, the lowest address first. -/
def writeBytes (m : List Host.Cell) (a : Nat) : List Byte → List Host.Cell
  | [] => m
  | b :: bs => writeBytes (writeByte m a b) (a + 1) bs

/-! ## Elements -/

/-- The pattern of a list of bytes, the least significant first. -/
def patternOfBytes : List Byte → Word
  | [] => 0
  | b :: bs => b.setWidth 32 ||| patternOfBytes bs <<< 8

/-- The low n bytes of a pattern, the least significant first. -/
def bytesOfPattern (p : Word) : Nat → List Byte
  | 0 => []
  | n + 1 => p.setWidth 8 :: bytesOfPattern (p >>> 8) n

/-- Least significant first to address order and back: BIG_ENDIAN turns the list round (R51). -/
def inByteOrder (bigEndian : Bool) (bs : List Byte) : List Byte := if bigEndian then bs.reverse else bs

/-- `LoadElem` (R54). -/
def loadElem (bigEndian : Bool) (m : List Host.Cell) (f : Format) (addr : Nat) : Word :=
  patternOfBytes (inByteOrder bigEndian (readBytes m addr (elemSize f)))

/-- `StoreElem` (R55). -/
def storeElem (bigEndian : Bool) (m : List Host.Cell) (f : Format) (addr : Nat) (p : Word) : List Host.Cell :=
  writeBytes m addr (inByteOrder bigEndian (bytesOfPattern p (elemSize f)))

/-- `Unpack24` (R56): the left-justified 32-bit value of the 24-bit sample at an address. -/
def unpack24 (bigEndian : Bool) (m : List Host.Cell) (addr : Nat) : Int :=
  (loadElem bigEndian m .i24 addr <<< 8).toInt

/-- `Pack24` (R57): the three most significant bytes of a 32-bit value; the low byte is dropped. -/
def pack24 (bigEndian : Bool) (m : List Host.Cell) (addr : Nat) (v : Int) : List Host.Cell :=
  storeElem bigEndian m .i24 addr (BitVec.ofInt 32 v >>> 8)

/-! ## The outcome of a command -/

/-- `raise` (R11, R300, R302), the block's whole exception mechanism: STATUS takes the code and nothing else changes; there is
no vector, no saved state and no return (R301, R310, R311). -/
def raise (c : Code) (s : State) : State := s.setStatus (codeWord c)

/-- A command that did what its rule says ends with STATUS = OK (R300). -/
def finish (s : State) : State := s.setStatus (codeWord .ok)

/-! ## The dither step -/

/-- The seed recurrence (R100). -/
def nextSeed (seed : Word) : Word := seed * Config.lcgA + Config.lcgC

/-- A seed read as signed and shifted right arithmetically by DITHER_SHIFT (R101). -/
def shiftedSeed (seed : Word) : Int := seed.toInt >>> Config.ditherShift

/-- One step of a context (R103): its output and the context after it. -/
def ditherStep (c : DitherCtx) : Int × DitherCtx :=
  let a := nextSeed c.seedA
  let b := nextSeed c.seedB
  let cur := shiftedSeed a + shiftedSeed b
  (cur - c.prev.toInt, { seedA := a, seedB := b, prev := BitVec.ofInt 32 cur })

/-- N_DCTX (R6, R26). -/
def contexts (s : State) : Nat := s.ds.length

/-- Context DS[k]. A command reads it only when k is below N_DCTX. -/
def contextAt (s : State) (k : Nat) : DitherCtx := s.ds.getD k (initialCtx s.params)

/-- `NextDither(k)` (R103). -/
def nextDither (k : Nat) (s : State) : Int × State :=
  let r := ditherStep (contextAt s k)
  (r.1, s.setDs (s.ds.set k r.2))

/-! ## Free values -/

/-- Take the next free value (R11): two draws are independent, each has a number of its own (log 10). -/
def takeDraw (s : State) : Word × State := (Config.draw s.draws, s.setDraws (s.draws + 1))

/-- `draw(8 × size)` of one element (R156). -/
def drawPattern (f : Format) (s : State) : Word × State :=
  ((keepBits (sampleBits f) (takeDraw s).1), (takeDraw s).2)

/-- The value of a band of integers that a free value selects; every value of the band is selected by some free value. -/
def bandValue (lo hi : Int) (w : Word) : Int := lo + (w.toNat : Int) % (hi - lo + 1)

/-- The lower end of the tolerance band around a logical value, cut at the end of the format's range (R282). -/
def bandLow (f : Format) (tol : Nat) (r : Int) : Int := max (r - tol) (leastLogical f)

/-- The upper end of the tolerance band (R282). -/
def bandHigh (f : Format) (tol : Nat) (r : Int) : Int := min (r + tol) (greatestLogical f)

/-- A `draw` restricted to the band around the reference pattern q (R282); log 11. -/
def drawInBand (f : Format) (tol : Nat) (q : Word) (s : State) : Word × State :=
  let r := logicalValue f q
  (patternOf f (bandValue (bandLow f tol r) (bandHigh f tol r) (takeDraw s).1), (takeDraw s).2)

/-! ## The buffer contract -/

/-- A byte lies in memory the host has allocated (R60); log 5. -/
def byteAllocated (s : State) (a : Nat) : Bool := s.alloc.any fun r => r.base ≤ a && a < r.base + r.size

/-- A condition on every index below n. -/
def allBelow : Nat → (Nat → Bool) → Bool
  | 0, _ => true
  | n + 1, p => p n && allBelow n p

/-- The last byte of the last element of a view of `count` > 0 elements lies below 2^ADDR_BITS (R60). -/
def viewInSpace (s : State) (f : Format) (base stride count : Nat) : Bool :=
  elemAddr base stride (elemSize f) (count - 1) + elemSize f ≤ spaceSize s.params

/-- Every byte of a view lies in allocated memory (R60). -/
def viewAllocated (s : State) (f : Format) (base stride count : Nat) : Bool :=
  allBelow count fun i => allBelow (elemSize f) fun j => byteAllocated s (elemAddr base stride (elemSize f) i + j)

/-- Two byte ranges have no byte in common. -/
def rangesDisjoint (a m b n : Nat) : Bool := a + m ≤ b || b + n ≤ a

/-- The bytes of two views of `count` > 0 elements are disjoint (R60). Views whose spans do not meet are disjoint at once; for
interleaved views every pair of elements is compared. -/
def viewsDisjoint (f g : Format) (base stride base' stride' count : Nat) : Bool :=
  rangesDisjoint base (elemAddr 0 stride (elemSize f) (count - 1) + elemSize f)
      base' (elemAddr 0 stride' (elemSize g) (count - 1) + elemSize g) ||
    allBelow count fun i => allBelow count fun j =>
      rangesDisjoint (elemAddr base stride (elemSize f) i) (elemSize f)
        (elemAddr base' stride' (elemSize g) j) (elemSize g)

/-- The first breach of the host's duties on the buffers of a RUN from `src` to `dst` (R59, R60); with count 0 no byte is
accessed (R157, log 7). Which of several breaches is named first is the model's choice (log 6). -/
def runBreach (src dst : Format) (s : State) : Option Refusal :=
  if s.a4.toNat = 0 then none
  else if s.a0.toNat % baseAlign dst ≠ 0 ∨ s.a2.toNat % baseAlign src ≠ 0 then some .misalignedBuffer
  else if !(viewInSpace s dst s.a0.toNat s.a1.toNat s.a4.toNat && viewInSpace s src s.a2.toNat s.a3.toNat s.a4.toNat) then
    some .bufferWraps
  else if !(viewAllocated s dst s.a0.toNat s.a1.toNat s.a4.toNat && viewAllocated s src s.a2.toNat s.a3.toNat s.a4.toNat) then
    some .bufferUnallocated
  else if !viewsDisjoint dst src s.a0.toNat s.a1.toNat s.a2.toNat s.a3.toNat s.a4.toNat then some .buffersOverlap
  else none

/-- The first breach of the host's duties on the buffer of a ZERO (R59, R60, R267). -/
def zeroBreach (f : Format) (s : State) : Option Refusal :=
  if s.a2.toNat = 0 then none
  else if s.a0.toNat % baseAlign f ≠ 0 then some .misalignedBuffer
  else if !viewInSpace s f s.a0.toNat s.a1.toNat s.a2.toNat then some .bufferWraps
  else if !viewAllocated s f s.a0.toNat s.a1.toNat s.a2.toNat then some .bufferUnallocated
  else none

/-! ## RUN -/

/-- One converter (R74, R151): its formats, its D bit, the tolerance of its accelerated path (R282) and its kernel, which
takes the source pattern and the dither value of the sample (ignored when `dither` is false) and returns the destination
pattern, or none for a `draw` (R156). -/
structure Converter where
  src    : Format
  dst    : Format
  dither : Bool
  tol    : Nat
  kernel : Word → Int → Option Word

/-- Load the working registers of a RUN (R28, R150). -/
def startRun (s : State) : State := s.setWork { sp := s.a2, dp := s.a0, n := s.a4 }

/-- Advance the working registers by one sample (R28, R150); log 9. -/
def advanceRun (c : Converter) (s : State) : State :=
  s.setWork
    { sp := truncAddr s.params (s.work.sp.toNat + s.a3.toNat * elemSize c.src)
      dp := truncAddr s.params (s.work.dp.toNat + s.a1.toNat * elemSize c.dst)
      n := truncAddr s.params (s.work.n.toNat - 1) }

/-- The dither value of one sample: one step of the context when the D bit is 1, no access to it when it is 0 (R154). -/
def sampleDither (c : Converter) (k : Nat) (s : State) : Int × State :=
  if c.dither then nextDither k s else (0, s)

/-- The element a sample leaves in the destination, from the kernel's reference result (R156, R282): a `draw`, the reference
value, or a value of the tolerance band when the sample goes through the accelerated path. -/
def sampleResult (c : Converter) (accelerated : Bool) (ref : Option Word) (s : State) : Word × State :=
  match ref with
  | none => drawPattern c.dst s
  | some q => if accelerated && c.tol != 0 then drawInBand c.dst c.tol q s else (q, s)

/-- Store an element of the destination (R55). -/
def storeSample (f : Format) (addr : Nat) (p : Word) (s : State) : State :=
  s.setMem (storeElem s.params.bigEndian s.mem f addr p)

/-- One sample of a RUN (R150): load, convert, store, advance. -/
def convertSample (c : Converter) (k : Nat) (accelerated : Bool) (s : State) : State :=
  let p := loadElem s.params.bigEndian s.mem c.src s.work.sp.toNat
  let d := sampleDither c k s
  let q := sampleResult c accelerated (c.kernel p d.1) d.2
  advanceRun c (storeSample c.dst q.2.work.dp.toNat q.1 q.2)

/-- Sample `i` of `count` belongs to the multiple-of-4 prefix that the accelerated path handles (R281, R282). -/
def inVectorPrefix (count i : Nat) : Bool := i < Config.lanes * (count / Config.lanes)

/-- The loop of RUN (R150) over the last `n` of `count` samples, in ascending index (R153). -/
def runLoop (c : Converter) (k count : Nat) : Nat → State → State
  | 0, s => s
  | n + 1, s =>
    runLoop c k count n (convertSample c k (accelOn s && inVectorPrefix count (count - (n + 1))) s)

/-- RUN (R150), the common part of the 60 converters: the checks in the order of R308, then the buffer contract (log 6), then
the samples. -/
def runConverter (c : Converter) (k : Nat) (s : State) : Host.Outcome State Fault Refusal :=
  if c.dither ∧ (c.src, c.dst) ∈ Config.unimpl then .next (raise .notImplemented s)
  else if c.dither ∧ contexts s ≤ k then .next (raise .badOperand s)
  else if s.a1 = 0 ∨ s.a3 = 0 then .next (raise .badOperand s)
  else
    match runBreach c.src c.dst s with
    | some r => .refused r
    | none => .next (finish (runLoop c k s.a4.toNat s.a4.toNat (startRun s)))

/-! ## ZERO -/

/-- Load the working registers of a ZERO (R28, R267); SP is not used. -/
def startZero (s : State) : State := s.setWork { sp := s.work.sp, dp := s.a0, n := s.a2 }

/-- Advance the working registers of a ZERO by one element (R28, R267); log 9. -/
def advanceZero (f : Format) (s : State) : State :=
  s.setWork
    { sp := s.work.sp
      dp := truncAddr s.params (s.work.dp.toNat + s.a1.toNat * elemSize f)
      n := truncAddr s.params (s.work.n.toNat - 1) }

/-- The loop of ZERO (R267): n elements of one pattern, ascending. -/
def zeroLoop (f : Format) (silence : Word) : Nat → State → State
  | 0, s => s
  | n + 1, s => zeroLoop f silence n (advanceZero f (storeSample f s.work.dp.toNat silence s))

/-- ZERO (R267), the common part of the six formats. -/
def runZero (f : Format) (silence : Word) (s : State) : Host.Outcome State Fault Refusal :=
  if s.a1 = 0 then .next (raise .badOperand s)
  else
    match zeroBreach f s with
    | some r => .refused r
    | none => .next (finish (zeroLoop f silence s.a2.toNat (startZero s)))

/-! ## Reset -/

/-- The reset event (R340, R341): every register of the block takes its reset value; the parameters are constants and memory
is not touched (R340); the host's allocation, its pending actions and the draw counter are not the block's (log 12). -/
def resetEvent (s : State) : State :=
  { State.reset with
    params := s.params
    ds := List.replicate s.ds.length (initialCtx s.params)
    mem := s.mem
    alloc := s.alloc
    draws := s.draws
    host := s.host }

end Sys2Proof.Machine
end

