-- ==== Sys2Proof/Machine/Control.lean ====
section
/-! DEFINITION. SETCTRL (R280), the block's one register-access command. -/

namespace Sys2Proof.Machine

/-- CTRL with ACCEL replaced and its other bits kept (R23, R280). -/
def withAccel (ctrl : Word) (accel : Bool) : Word := (ctrl &&& 0xFFFFFFFE) ||| (if accel then 1 else 0)

/-- SETCTRL (R280). -/
def execSetctrl (accel : Bool) (s : State) : Host.Outcome State Fault Refusal :=
  .next (finish (s.setCtrl (withAccel s.ctrl accel)))

end Sys2Proof.Machine
end

