-- ==== Sys2Proof/Machine/CopyZero.lean ====
section
/-! DEFINITION. The six copy converters (R260 to R266) and the six zero fills (R267 to R273). -/

namespace Sys2Proof.Machine

/-- `Copy` (R260): the source pattern unchanged, whatever it encodes. -/
def copyKernel (p : Word) (_d : Int) : Option Word := some p

/-- The copy converter of a format. -/
def copyConverter (f : Format) : Converter :=
  { src := f, dst := f, dither := false, tol := 0, kernel := copyKernel }

/-- `Silence` (R268 to R273): the pattern of digital zero; +0.0 for Float32, 128 for UInt8. -/
def silence : Format → Word
  | .f32 => 0x00000000
  | .i32 => 0x00000000
  | .i24 => 0x000000
  | .i16 => 0x0000
  | .i8 => 0x00
  | .u8 => 0x80

/-- COPY.F32 (R261). -/
def execCopyF32 (dctx : Nat) (s : State) : Host.Outcome State Fault Refusal :=
  runConverter (copyConverter .f32) dctx s

/-- COPY.I32 (R262). -/
def execCopyI32 (dctx : Nat) (s : State) : Host.Outcome State Fault Refusal :=
  runConverter (copyConverter .i32) dctx s

/-- COPY.I24 (R263). -/
def execCopyI24 (dctx : Nat) (s : State) : Host.Outcome State Fault Refusal :=
  runConverter (copyConverter .i24) dctx s

/-- COPY.I16 (R264). -/
def execCopyI16 (dctx : Nat) (s : State) : Host.Outcome State Fault Refusal :=
  runConverter (copyConverter .i16) dctx s

/-- COPY.I8 (R265). -/
def execCopyI8 (dctx : Nat) (s : State) : Host.Outcome State Fault Refusal :=
  runConverter (copyConverter .i8) dctx s

/-- COPY.U8 (R266). -/
def execCopyU8 (dctx : Nat) (s : State) : Host.Outcome State Fault Refusal :=
  runConverter (copyConverter .u8) dctx s

/-- ZERO.F32 (R268). -/
def execZeroF32 (s : State) : Host.Outcome State Fault Refusal :=
  runZero .f32 (silence .f32) s

/-- ZERO.I32 (R269). -/
def execZeroI32 (s : State) : Host.Outcome State Fault Refusal :=
  runZero .i32 (silence .i32) s

/-- ZERO.I24 (R270). -/
def execZeroI24 (s : State) : Host.Outcome State Fault Refusal :=
  runZero .i24 (silence .i24) s

/-- ZERO.I16 (R271). -/
def execZeroI16 (s : State) : Host.Outcome State Fault Refusal :=
  runZero .i16 (silence .i16) s

/-- ZERO.I8 (R272). -/
def execZeroI8 (s : State) : Host.Outcome State Fault Refusal :=
  runZero .i8 (silence .i8) s

/-- ZERO.U8 (R273). -/
def execZeroU8 (s : State) : Host.Outcome State Fault Refusal :=
  runZero .u8 (silence .u8) s

end Sys2Proof.Machine
end

