-- ==== Sys2Proof/Machine/FloatToFixed.lean ====
section
/-! DEFINITION. The 20 Float32 to integer converters (R170 to R193): the kernel `F2I` and one meaning for each CONVID. -/

namespace Sys2Proof.Machine

/-- The greatest magnitude M of a destination (R170). Int24 is computed as Int32 and keeps the three high bytes
(spec/92_eei_decisions.md D22). -/
def maxMagnitude : Format → Int
  | .f32 => 1
  | .i32 => 2147483647
  | .i24 => 2147483647
  | .i16 => 32767
  | .i8 => 127
  | .u8 => 127

/-- The least value `lo` of F2I's result (R170). -/
def lowBound : Format → Int
  | .f32 => -1
  | .i32 => -2147483648
  | .i24 => -2147483648
  | .i16 => -32768
  | .i8 => -128
  | .u8 => -128

/-- The greatest value `hi` of F2I's result (R170). -/
def highBound : Format → Int
  | .f32 => 1
  | .i32 => 2147483647
  | .i24 => 2147483647
  | .i16 => 32767
  | .i8 => 127
  | .u8 => 127

/-- The scale S = M - D: one unit smaller when dithering (R170). -/
def scaleFor (m : Int) (dither : Bool) : Int := if dither then m - 1 else m

/-- The float dither value of a step, d / 32767 exactly (R107). -/
def floatDither (d : Int) : Rat := mkRat d Config.ditherDenominator

/-- The scaled and possibly dithered value before the clamp (R170). -/
def scaledValue (x : Rat) (d m : Int) (dither : Bool) : Rat :=
  x * mkRat (scaleFor m dither) 1 + (if dither then floatDither d else 0)

/-- Truncate and check the range (R170): none is DRAW. -/
def truncInRange (v : Rat) (lo hi : Int) : Option Int :=
  if truncRat v < lo ∨ hi < truncRat v then none else some (truncRat v)

/-- `F2I` (R170) after its dither step, whose value is d; none is DRAW. NaN draws in every variant, an infinity is clamped by
a clipping variant and draws otherwise (R191). -/
def f2i (p : Word) (d m lo hi : Int) (dither clip : Bool) : Option Int :=
  match fval p with
  | .nan => none
  | .posInf => if clip then some hi else none
  | .negInf => if clip then some lo else none
  | .finite x =>
    let v := scaledValue x d m dither
    truncInRange (if clip then clampRat v (mkRat lo 1) (mkRat hi 1) else v) lo hi

/-- The stored pattern of F2I's result r (R170): the three high bytes of the 32-bit r for Int24 (R57, R175), r + 128 for
UInt8, and r itself elsewhere. -/
def fixedPattern (f : Format) (r : Int) : Word :=
  match f with
  | .i24 => bitsOfInt 24 (r >>> (8 : Nat))
  | f => patternOf f r

/-- The kernel of a Float32 to integer converter (R170). -/
def floatToFixed (dst : Format) (dither clip : Bool) (p : Word) (d : Int) : Option Word :=
  (f2i p d (maxMagnitude dst) (lowBound dst) (highBound dst) dither clip).map (fixedPattern dst)

/-- A Float32 to integer converter with the tolerance of its accelerated path (R282). -/
def floatConverter (dst : Format) (dither clip : Bool) (tol : Nat) : Converter :=
  { src := .f32, dst := dst, dither := dither, tol := tol, kernel := floatToFixed dst dither clip }

/-- CVT.F32.I32 (R171). -/
def execCvtF32I32 (dctx : Nat) (s : State) : Host.Outcome State Fault Refusal :=
  runConverter (floatConverter .i32 false false 0) dctx s

/-- CVT.F32.I32.C (R172). -/
def execCvtF32I32C (dctx : Nat) (s : State) : Host.Outcome State Fault Refusal :=
  runConverter (floatConverter .i32 false true 0) dctx s

/-- CVT.F32.I32.D (R173). -/
def execCvtF32I32D (dctx : Nat) (s : State) : Host.Outcome State Fault Refusal :=
  runConverter (floatConverter .i32 true false Config.tol32D) dctx s

/-- CVT.F32.I32.DC (R174). -/
def execCvtF32I32Dc (dctx : Nat) (s : State) : Host.Outcome State Fault Refusal :=
  runConverter (floatConverter .i32 true true Config.tol32D) dctx s

/-- CVT.F32.I24 (R175). -/
def execCvtF32I24 (dctx : Nat) (s : State) : Host.Outcome State Fault Refusal :=
  runConverter (floatConverter .i24 false false Config.tol24) dctx s

/-- CVT.F32.I24.C (R176). -/
def execCvtF32I24C (dctx : Nat) (s : State) : Host.Outcome State Fault Refusal :=
  runConverter (floatConverter .i24 false true Config.tol24) dctx s

/-- CVT.F32.I24.D (R177). -/
def execCvtF32I24D (dctx : Nat) (s : State) : Host.Outcome State Fault Refusal :=
  runConverter (floatConverter .i24 true false Config.tol24) dctx s

/-- CVT.F32.I24.DC (R178). -/
def execCvtF32I24Dc (dctx : Nat) (s : State) : Host.Outcome State Fault Refusal :=
  runConverter (floatConverter .i24 true true Config.tol24) dctx s

/-- CVT.F32.I16 (R179). -/
def execCvtF32I16 (dctx : Nat) (s : State) : Host.Outcome State Fault Refusal :=
  runConverter (floatConverter .i16 false false 0) dctx s

/-- CVT.F32.I16.C (R180). -/
def execCvtF32I16C (dctx : Nat) (s : State) : Host.Outcome State Fault Refusal :=
  runConverter (floatConverter .i16 false true 0) dctx s

/-- CVT.F32.I16.D (R181). -/
def execCvtF32I16D (dctx : Nat) (s : State) : Host.Outcome State Fault Refusal :=
  runConverter (floatConverter .i16 true false 0) dctx s

/-- CVT.F32.I16.DC (R182). -/
def execCvtF32I16Dc (dctx : Nat) (s : State) : Host.Outcome State Fault Refusal :=
  runConverter (floatConverter .i16 true true 0) dctx s

/-- CVT.F32.I8 (R183). -/
def execCvtF32I8 (dctx : Nat) (s : State) : Host.Outcome State Fault Refusal :=
  runConverter (floatConverter .i8 false false 0) dctx s

/-- CVT.F32.I8.C (R184). -/
def execCvtF32I8C (dctx : Nat) (s : State) : Host.Outcome State Fault Refusal :=
  runConverter (floatConverter .i8 false true 0) dctx s

/-- CVT.F32.I8.D (R185). -/
def execCvtF32I8D (dctx : Nat) (s : State) : Host.Outcome State Fault Refusal :=
  runConverter (floatConverter .i8 true false 0) dctx s

/-- CVT.F32.I8.DC (R186). -/
def execCvtF32I8Dc (dctx : Nat) (s : State) : Host.Outcome State Fault Refusal :=
  runConverter (floatConverter .i8 true true 0) dctx s

/-- CVT.F32.U8 (R187). -/
def execCvtF32U8 (dctx : Nat) (s : State) : Host.Outcome State Fault Refusal :=
  runConverter (floatConverter .u8 false false 0) dctx s

/-- CVT.F32.U8.C (R188). -/
def execCvtF32U8C (dctx : Nat) (s : State) : Host.Outcome State Fault Refusal :=
  runConverter (floatConverter .u8 false true 0) dctx s

/-- CVT.F32.U8.D (R189). -/
def execCvtF32U8D (dctx : Nat) (s : State) : Host.Outcome State Fault Refusal :=
  runConverter (floatConverter .u8 true false 0) dctx s

/-- CVT.F32.U8.DC (R190). -/
def execCvtF32U8Dc (dctx : Nat) (s : State) : Host.Outcome State Fault Refusal :=
  runConverter (floatConverter .u8 true true 0) dctx s

end Sys2Proof.Machine
end

