-- ==== Sys2Proof/Machine/Dither.lean ====
section
/-! DEFINITION. The dither commands DINIT, DITHER16, DITHERF, VDITHER16 and VDITHERF (R105 to R109) and the lane view of the
vectorised generator (R110), which is computed and not stored (log 15). None of them reads CTRL.ACCEL (R288). -/

namespace Sys2Proof.Machine

/-- A dither command on a context the instance has; BAD_OPERAND otherwise (R306). -/
def onContext (k : Nat) (s : State) (effect : State → State) : Host.Outcome State Fault Refusal :=
  if contexts s ≤ k then .next (raise .badOperand s) else .next (finish (effect s))

/-- A dither value as the integer entry point returns it, sign-extended to 32 bits (R106). -/
def integerResult (d : Int) : Word := BitVec.ofInt 32 d

/-- A dither value as the floating entry point returns it, rounded once (R107). -/
def floatResult (d : Int) : Word := rne32 (floatDither d)

/-- One step, its value in RESULT0 (R106, R107). -/
def stepOnce (form : Int → Word) (k : Nat) (s : State) : State :=
  let r0 := nextDither k s
  r0.2.setResult0 (form r0.1)

/-- Four successive steps, lane j in RESULTj (R108, R109). -/
def stepFour (form : Int → Word) (k : Nat) (s : State) : State :=
  let r0 := nextDither k s
  let r1 := nextDither k r0.2
  let r2 := nextDither k r1.2
  let r3 := nextDither k r2.2
  (((r3.2.setResult0 (form r0.1)).setResult1 (form r1.1)).setResult2 (form r2.1)).setResult3 (form r3.1)

/-- DINIT (R105). -/
def execDinit (dctx : Nat) (s : State) : Host.Outcome State Fault Refusal :=
  onContext dctx s fun s => s.setDs (s.ds.set dctx (initialCtx s.params))

/-- DITHER16 (R106). -/
def execDither16 (dctx : Nat) (s : State) : Host.Outcome State Fault Refusal :=
  onContext dctx s (stepOnce integerResult dctx)

/-- DITHERF (R107). -/
def execDitherf (dctx : Nat) (s : State) : Host.Outcome State Fault Refusal :=
  onContext dctx s (stepOnce floatResult dctx)

/-- VDITHER16 (R108). -/
def execVdither16 (dctx : Nat) (s : State) : Host.Outcome State Fault Refusal :=
  onContext dctx s (stepFour integerResult dctx)

/-- VDITHERF (R109). -/
def execVditherf (dctx : Nat) (s : State) : Host.Outcome State Fault Refusal :=
  onContext dctx s (stepFour floatResult dctx)

/-- A[n] of R110: LCG_A^n mod 2^32. -/
def laneMul : Nat → Word
  | 0 => 1
  | n + 1 => laneMul n * Config.lcgA

/-- C[n] of R110: LCG_C × (1 + LCG_A + ... + LCG_A^(n-1)) mod 2^32. -/
def laneAdd : Nat → Word
  | 0 => 0
  | n + 1 => laneAdd n + laneMul n * Config.lcgC

/-- Lane j of the vectorised generator before a four-wide step: the architectural seed j+1 steps ahead (R29, R110). -/
def laneSeed (seed : Word) (j : Nat) : Word := seed * laneMul (j + 1) + laneAdd (j + 1)

end Sys2Proof.Machine
end

