-- ==== Sys2Proof/Machine/FixedToFloat.lean ====
section
/-! DEFINITION. The 16 integer to Float32, widening and eight-bit offset converters (R200 to R217): the kernels `I2F` and `Widen` and one
meaning for each CONVID. All are plain: DCTX is not read, and no kernel draws. -/

namespace Sys2Proof.Machine

/-- `I2F` (R200): the logical value n of a source of `bits` sample bits, divided by 2^(bits-1) and rounded once. -/
def i2f (n : Int) (bits : Nat) : Word := rne32 (mkRat n (2 ^ (bits - 1)))

/-- The kernel of an integer to Float32 converter (R200 to R205). -/
def fixedToFloat (src : Format) (p : Word) (_d : Int) : Option Word :=
  some (i2f (logicalValue src p) (sampleBits src))

/-- An integer to Float32 converter. -/
def toFloatConverter (src : Format) : Converter :=
  { src := src, dst := .f32, dither := false, tol := 0, kernel := fixedToFloat src }

/-- `Widen` (R206): the sample moves to the high-order bits, the new low bits are zero; `places` is Bd - Bs. -/
def widen (n : Int) (places : Nat) : Int := n * 2 ^ places

/-- The kernel of a widening converter (R206 to R216) and, with equal widths, of an eight-bit offset converter (R213,
R217). -/
def widenKernel (src dst : Format) (p : Word) (_d : Int) : Option Word :=
  some (patternOf dst (widen (logicalValue src p) (sampleBits dst - sampleBits src)))

/-- A widening or offset converter. -/
def widenConverter (src dst : Format) : Converter :=
  { src := src, dst := dst, dither := false, tol := 0, kernel := widenKernel src dst }

/-- CVT.I32.F32 (R201). -/
def execCvtI32F32 (dctx : Nat) (s : State) : Host.Outcome State Fault Refusal :=
  runConverter (toFloatConverter .i32) dctx s

/-- CVT.I24.F32 (R202). -/
def execCvtI24F32 (dctx : Nat) (s : State) : Host.Outcome State Fault Refusal :=
  runConverter (toFloatConverter .i24) dctx s

/-- CVT.I16.F32 (R203). -/
def execCvtI16F32 (dctx : Nat) (s : State) : Host.Outcome State Fault Refusal :=
  runConverter (toFloatConverter .i16) dctx s

/-- CVT.I8.F32 (R204). -/
def execCvtI8F32 (dctx : Nat) (s : State) : Host.Outcome State Fault Refusal :=
  runConverter (toFloatConverter .i8) dctx s

/-- CVT.U8.F32 (R205). -/
def execCvtU8F32 (dctx : Nat) (s : State) : Host.Outcome State Fault Refusal :=
  runConverter (toFloatConverter .u8) dctx s

/-- CVT.I24.I32 (R207). -/
def execCvtI24I32 (dctx : Nat) (s : State) : Host.Outcome State Fault Refusal :=
  runConverter (widenConverter .i24 .i32) dctx s

/-- CVT.I16.I32 (R208). -/
def execCvtI16I32 (dctx : Nat) (s : State) : Host.Outcome State Fault Refusal :=
  runConverter (widenConverter .i16 .i32) dctx s

/-- CVT.I16.I24 (R209). -/
def execCvtI16I24 (dctx : Nat) (s : State) : Host.Outcome State Fault Refusal :=
  runConverter (widenConverter .i16 .i24) dctx s

/-- CVT.I8.I32 (R210). -/
def execCvtI8I32 (dctx : Nat) (s : State) : Host.Outcome State Fault Refusal :=
  runConverter (widenConverter .i8 .i32) dctx s

/-- CVT.I8.I24 (R211). -/
def execCvtI8I24 (dctx : Nat) (s : State) : Host.Outcome State Fault Refusal :=
  runConverter (widenConverter .i8 .i24) dctx s

/-- CVT.I8.I16 (R212). -/
def execCvtI8I16 (dctx : Nat) (s : State) : Host.Outcome State Fault Refusal :=
  runConverter (widenConverter .i8 .i16) dctx s

/-- CVT.I8.U8 (R213). -/
def execCvtI8U8 (dctx : Nat) (s : State) : Host.Outcome State Fault Refusal :=
  runConverter (widenConverter .i8 .u8) dctx s

/-- CVT.U8.I32 (R214). -/
def execCvtU8I32 (dctx : Nat) (s : State) : Host.Outcome State Fault Refusal :=
  runConverter (widenConverter .u8 .i32) dctx s

/-- CVT.U8.I24 (R215). -/
def execCvtU8I24 (dctx : Nat) (s : State) : Host.Outcome State Fault Refusal :=
  runConverter (widenConverter .u8 .i24) dctx s

/-- CVT.U8.I16 (R216). -/
def execCvtU8I16 (dctx : Nat) (s : State) : Host.Outcome State Fault Refusal :=
  runConverter (widenConverter .u8 .i16) dctx s

/-- CVT.U8.I8 (R217). -/
def execCvtU8I8 (dctx : Nat) (s : State) : Host.Outcome State Fault Refusal :=
  runConverter (widenConverter .u8 .i8) dctx s

end Sys2Proof.Machine
end

