-- ==== Sys2Proof/Machine/FormatSelect.lean ====
section
/-! DEFINITION. The format selector, SELFMT (R120 to R124). -/

namespace Sys2Proof.Machine

/-- The ordinals better than r in the order of the upward scan (R121): nearest first, or best first where FALLBACK_UP is
`best` (R123). For Float32 there is none (R122). -/
def upScan (mode : Config.FallbackUp) (r : Nat) : List Nat :=
  match mode with
  | .nearest => (List.range r).reverse
  | .best => List.range r

/-- The ordinals worse than r, up to 5, nearest first (R121). -/
def downScan (r : Nat) : List Nat := (List.range (5 - r)).map (r + 1 + ·)

/-- The available set: the six format bits of A0 (R120). -/
def availableMask (a : Addr) : Word := formatWord a &&& 0x3F

/-- The ordinal the selector picks for the requested ordinal r (R121): r itself, else the first available one of the upward
scan, else the first of the downward scan. -/
def pickFormat (mode : Config.FallbackUp) (avail : Word) (r : Nat) : Option Nat :=
  (r :: (upScan mode r ++ downScan r)).find? fun k => avail.getLsbD k

/-- The SampleFormat word of an ordinal, 2^k (R76). -/
def formatBit (k : Nat) : Word := BitVec.ofNat 32 (2 ^ k)

/-- SELFMT (R121): A0 holds the available mask, A1 the requested SampleFormat word. -/
def execSelfmt (s : State) : Host.Outcome State Fault Refusal :=
  match singleFormat (formatWord s.a1) with
  | none => .next (raise .notSupported (s.setResult0 0))
  | some f =>
    match pickFormat s.params.fallbackUp (availableMask s.a0) (ordinal f) with
    | some k => .next (finish (s.setResult0 (formatBit k)))
    | none => .next (raise .notSupported (s.setResult0 0))

end Sys2Proof.Machine
end

