-- ==== Sys2Proof/Machine/Narrowing.lean ====
section
/-! DEFINITION. The 18 narrowing converters (R230 to R251): the kernels `Narrow` and `NarrowD` and one meaning for each CONVID. The six
dithered ones whose pair is in UNIMPL end with NOT_IMPLEMENTED in the common part of RUN (R150, R244). -/

namespace Sys2Proof.Machine

/-- `Narrow` (R230): the high-order bits, by an arithmetic shift of Bs - Bd. -/
def narrow (n : Int) (places : Nat) : Int := n >>> places

/-- The kernel of a plain narrowing converter (R230 to R239). -/
def narrowKernel (src dst : Format) (p : Word) (_d : Int) : Option Word :=
  some (patternOf dst (narrow (logicalValue src p) (sampleBits src - sampleBits dst)))

/-- The sum t of `NarrowD` (R240): the left-justified value shifted right by exactly one bit, plus the dither value. -/
def narrowSum (bits : Nat) (n d : Int) : Int := (leftJustified bits n >>> (1 : Nat)) + d

/-- `NarrowD` (R240) after its dither step: the sum shifted into the narrow width, before its low Bd bits are taken. -/
def narrowD (srcBits dstBits : Nat) (n d : Int) : Int := narrowSum srcBits n d >>> (31 - dstBits)

/-- The kernel of a dithered narrowing converter (R240 to R243): the low Bd bits, so it wraps (R251). -/
def narrowDKernel (src dst : Format) (p : Word) (d : Int) : Option Word :=
  some (patternOf dst (narrowD (sampleBits src) (sampleBits dst) (logicalValue src p) d))

/-- A plain narrowing converter. -/
def narrowConverter (src dst : Format) : Converter :=
  { src := src, dst := dst, dither := false, tol := 0, kernel := narrowKernel src dst }

/-- A dithered narrowing converter. Where the pair is in UNIMPL the kernel is never reached (R244). -/
def narrowDConverter (src dst : Format) : Converter :=
  { src := src, dst := dst, dither := true, tol := 0, kernel := narrowDKernel src dst }

/-- CVT.I32.I24 (R231). -/
def execCvtI32I24 (dctx : Nat) (s : State) : Host.Outcome State Fault Refusal :=
  runConverter (narrowConverter .i32 .i24) dctx s

/-- CVT.I32.I24.D (R245). -/
def execCvtI32I24D (dctx : Nat) (s : State) : Host.Outcome State Fault Refusal :=
  runConverter (narrowDConverter .i32 .i24) dctx s

/-- CVT.I32.I16 (R232). -/
def execCvtI32I16 (dctx : Nat) (s : State) : Host.Outcome State Fault Refusal :=
  runConverter (narrowConverter .i32 .i16) dctx s

/-- CVT.I32.I16.D (R241). -/
def execCvtI32I16D (dctx : Nat) (s : State) : Host.Outcome State Fault Refusal :=
  runConverter (narrowDConverter .i32 .i16) dctx s

/-- CVT.I32.I8 (R233). -/
def execCvtI32I8 (dctx : Nat) (s : State) : Host.Outcome State Fault Refusal :=
  runConverter (narrowConverter .i32 .i8) dctx s

/-- CVT.I32.I8.D (R242). -/
def execCvtI32I8D (dctx : Nat) (s : State) : Host.Outcome State Fault Refusal :=
  runConverter (narrowDConverter .i32 .i8) dctx s

/-- CVT.I32.U8 (R234). -/
def execCvtI32U8 (dctx : Nat) (s : State) : Host.Outcome State Fault Refusal :=
  runConverter (narrowConverter .i32 .u8) dctx s

/-- CVT.I32.U8.D (R246). -/
def execCvtI32U8D (dctx : Nat) (s : State) : Host.Outcome State Fault Refusal :=
  runConverter (narrowDConverter .i32 .u8) dctx s

/-- CVT.I24.I16 (R235). -/
def execCvtI24I16 (dctx : Nat) (s : State) : Host.Outcome State Fault Refusal :=
  runConverter (narrowConverter .i24 .i16) dctx s

/-- CVT.I24.I16.D (R243). -/
def execCvtI24I16D (dctx : Nat) (s : State) : Host.Outcome State Fault Refusal :=
  runConverter (narrowDConverter .i24 .i16) dctx s

/-- CVT.I24.I8 (R236). -/
def execCvtI24I8 (dctx : Nat) (s : State) : Host.Outcome State Fault Refusal :=
  runConverter (narrowConverter .i24 .i8) dctx s

/-- CVT.I24.I8.D (R247). -/
def execCvtI24I8D (dctx : Nat) (s : State) : Host.Outcome State Fault Refusal :=
  runConverter (narrowDConverter .i24 .i8) dctx s

/-- CVT.I24.U8 (R237). -/
def execCvtI24U8 (dctx : Nat) (s : State) : Host.Outcome State Fault Refusal :=
  runConverter (narrowConverter .i24 .u8) dctx s

/-- CVT.I24.U8.D (R248). -/
def execCvtI24U8D (dctx : Nat) (s : State) : Host.Outcome State Fault Refusal :=
  runConverter (narrowDConverter .i24 .u8) dctx s

/-- CVT.I16.I8 (R238). -/
def execCvtI16I8 (dctx : Nat) (s : State) : Host.Outcome State Fault Refusal :=
  runConverter (narrowConverter .i16 .i8) dctx s

/-- CVT.I16.I8.D (R249). -/
def execCvtI16I8D (dctx : Nat) (s : State) : Host.Outcome State Fault Refusal :=
  runConverter (narrowDConverter .i16 .i8) dctx s

/-- CVT.I16.U8 (R239). -/
def execCvtI16U8 (dctx : Nat) (s : State) : Host.Outcome State Fault Refusal :=
  runConverter (narrowConverter .i16 .u8) dctx s

/-- CVT.I16.U8.D (R250). -/
def execCvtI16U8D (dctx : Nat) (s : State) : Host.Outcome State Fault Refusal :=
  runConverter (narrowDConverter .i16 .u8) dctx s

end Sys2Proof.Machine
end

