-- ==== Sys2Proof/Machine/Registry.lean ====
section
/-! DEFINITION. The converter registry and RESOLVE (R130 to R139). -/

namespace Sys2Proof.Machine

/-- The pair has clipping variants: Float32 to any integer format (R132). -/
def hasC (src dst : Format) : Bool := src = .f32 && dst != .f32

/-- The pair has dithering variants: Float32 to any integer format, and integer to a narrower integer (R132). -/
def hasD (src dst : Format) : Bool :=
  hasC src dst || (src != .f32 && dst != .f32 && decide (sampleBits dst < sampleBits src))

/-- CONVID = SRC × 32 + DST × 4 + D × 2 + C (R74). -/
def convId (src dst : Format) (d c : Bool) : Nat :=
  ordinal src * 32 + ordinal dst * 4 + d.toNat * 2 + c.toNat

/-- RESULT0 of a RESOLVE that fails (R133, R302). -/
def resolveSentinel : Word := 0xFFFFFFFF

/-- The registry's answer for a pair of formats and the two off flags (R133): a CONVID, or none where the dithering variant
it comes to is not implemented (R134). A flag that asks for a variant the pair lacks is ignored. -/
def resolvePair (src dst : Format) (clipOff ditherOff : Bool) : Option Nat :=
  let d := hasD src dst && !ditherOff
  let c := hasC src dst && !clipOff
  if d ∧ (src, dst) ∈ Config.unimpl then none else some (convId src dst d c)

/-- RESOLVE (R133): A0 and A1 hold the source and destination SampleFormat words. -/
def execResolve (clipOff ditherOff : Bool) (s : State) : Host.Outcome State Fault Refusal :=
  match singleFormat (formatWord s.a0), singleFormat (formatWord s.a1) with
  | some src, some dst =>
    match resolvePair src dst clipOff ditherOff with
    | some id => .next (finish (s.setResult0 (BitVec.ofNat 32 id)))
    | none => .next (raise .notImplemented (s.setResult0 resolveSentinel))
  | _, _ => .next (raise .notSupported (s.setResult0 resolveSentinel))

end Sys2Proof.Machine
end

