-- ==== Sys2Proof/Machine/Dispatch.lean ====
section
/-! DEFINITION. The meaning of each command: one arm per constructor of Instr. -/

namespace Sys2Proof.Machine

def exec (i : Instr) (s : State) : Host.Outcome State Fault Refusal :=
  match i with
  | .copyF32 k => Sys2Proof.Machine.execCopyF32 k s
  | .cvtF32I32 k => Sys2Proof.Machine.execCvtF32I32 k s
  | .cvtF32I32C k => Sys2Proof.Machine.execCvtF32I32C k s
  | .cvtF32I32D k => Sys2Proof.Machine.execCvtF32I32D k s
  | .cvtF32I32Dc k => Sys2Proof.Machine.execCvtF32I32Dc k s
  | .cvtF32I24 k => Sys2Proof.Machine.execCvtF32I24 k s
  | .cvtF32I24C k => Sys2Proof.Machine.execCvtF32I24C k s
  | .cvtF32I24D k => Sys2Proof.Machine.execCvtF32I24D k s
  | .cvtF32I24Dc k => Sys2Proof.Machine.execCvtF32I24Dc k s
  | .cvtF32I16 k => Sys2Proof.Machine.execCvtF32I16 k s
  | .cvtF32I16C k => Sys2Proof.Machine.execCvtF32I16C k s
  | .cvtF32I16D k => Sys2Proof.Machine.execCvtF32I16D k s
  | .cvtF32I16Dc k => Sys2Proof.Machine.execCvtF32I16Dc k s
  | .cvtF32I8 k => Sys2Proof.Machine.execCvtF32I8 k s
  | .cvtF32I8C k => Sys2Proof.Machine.execCvtF32I8C k s
  | .cvtF32I8D k => Sys2Proof.Machine.execCvtF32I8D k s
  | .cvtF32I8Dc k => Sys2Proof.Machine.execCvtF32I8Dc k s
  | .cvtF32U8 k => Sys2Proof.Machine.execCvtF32U8 k s
  | .cvtF32U8C k => Sys2Proof.Machine.execCvtF32U8C k s
  | .cvtF32U8D k => Sys2Proof.Machine.execCvtF32U8D k s
  | .cvtF32U8Dc k => Sys2Proof.Machine.execCvtF32U8Dc k s
  | .cvtI32F32 k => Sys2Proof.Machine.execCvtI32F32 k s
  | .copyI32 k => Sys2Proof.Machine.execCopyI32 k s
  | .cvtI32I24 k => Sys2Proof.Machine.execCvtI32I24 k s
  | .cvtI32I24D k => Sys2Proof.Machine.execCvtI32I24D k s
  | .cvtI32I16 k => Sys2Proof.Machine.execCvtI32I16 k s
  | .cvtI32I16D k => Sys2Proof.Machine.execCvtI32I16D k s
  | .cvtI32I8 k => Sys2Proof.Machine.execCvtI32I8 k s
  | .cvtI32I8D k => Sys2Proof.Machine.execCvtI32I8D k s
  | .cvtI32U8 k => Sys2Proof.Machine.execCvtI32U8 k s
  | .cvtI32U8D k => Sys2Proof.Machine.execCvtI32U8D k s
  | .cvtI24F32 k => Sys2Proof.Machine.execCvtI24F32 k s
  | .cvtI24I32 k => Sys2Proof.Machine.execCvtI24I32 k s
  | .copyI24 k => Sys2Proof.Machine.execCopyI24 k s
  | .cvtI24I16 k => Sys2Proof.Machine.execCvtI24I16 k s
  | .cvtI24I16D k => Sys2Proof.Machine.execCvtI24I16D k s
  | .cvtI24I8 k => Sys2Proof.Machine.execCvtI24I8 k s
  | .cvtI24I8D k => Sys2Proof.Machine.execCvtI24I8D k s
  | .cvtI24U8 k => Sys2Proof.Machine.execCvtI24U8 k s
  | .cvtI24U8D k => Sys2Proof.Machine.execCvtI24U8D k s
  | .cvtI16F32 k => Sys2Proof.Machine.execCvtI16F32 k s
  | .cvtI16I32 k => Sys2Proof.Machine.execCvtI16I32 k s
  | .cvtI16I24 k => Sys2Proof.Machine.execCvtI16I24 k s
  | .copyI16 k => Sys2Proof.Machine.execCopyI16 k s
  | .cvtI16I8 k => Sys2Proof.Machine.execCvtI16I8 k s
  | .cvtI16I8D k => Sys2Proof.Machine.execCvtI16I8D k s
  | .cvtI16U8 k => Sys2Proof.Machine.execCvtI16U8 k s
  | .cvtI16U8D k => Sys2Proof.Machine.execCvtI16U8D k s
  | .cvtI8F32 k => Sys2Proof.Machine.execCvtI8F32 k s
  | .cvtI8I32 k => Sys2Proof.Machine.execCvtI8I32 k s
  | .cvtI8I24 k => Sys2Proof.Machine.execCvtI8I24 k s
  | .cvtI8I16 k => Sys2Proof.Machine.execCvtI8I16 k s
  | .copyI8 k => Sys2Proof.Machine.execCopyI8 k s
  | .cvtI8U8 k => Sys2Proof.Machine.execCvtI8U8 k s
  | .cvtU8F32 k => Sys2Proof.Machine.execCvtU8F32 k s
  | .cvtU8I32 k => Sys2Proof.Machine.execCvtU8I32 k s
  | .cvtU8I24 k => Sys2Proof.Machine.execCvtU8I24 k s
  | .cvtU8I16 k => Sys2Proof.Machine.execCvtU8I16 k s
  | .cvtU8I8 k => Sys2Proof.Machine.execCvtU8I8 k s
  | .copyU8 k => Sys2Proof.Machine.execCopyU8 k s
  | .zeroF32 => Sys2Proof.Machine.execZeroF32 s
  | .zeroI32 => Sys2Proof.Machine.execZeroI32 s
  | .zeroI24 => Sys2Proof.Machine.execZeroI24 s
  | .zeroI16 => Sys2Proof.Machine.execZeroI16 s
  | .zeroI8 => Sys2Proof.Machine.execZeroI8 s
  | .zeroU8 => Sys2Proof.Machine.execZeroU8 s
  | .resolve c d => Sys2Proof.Machine.execResolve c d s
  | .selfmt => Sys2Proof.Machine.execSelfmt s
  | .dinit k => Sys2Proof.Machine.execDinit k s
  | .dither16 k => Sys2Proof.Machine.execDither16 k s
  | .ditherf k => Sys2Proof.Machine.execDitherf k s
  | .vdither16 k => Sys2Proof.Machine.execVdither16 k s
  | .vditherf k => Sys2Proof.Machine.execVditherf k s
  | .setctrl a => Sys2Proof.Machine.execSetctrl a s

end Sys2Proof.Machine
end

