-- ==== Sys2Proof/Machine/HostPort.lean ====
section
/-! DEFINITION. The host's side of the block (R32, R70, R350): issuing a command word, writing and reading registers by number,
and the host's own actions on memory. A command is issued, decoded and run to its end in one step. -/

namespace Sys2Proof.Machine

/-- Run the command in W: an illegal word ends with ILLEGAL_COMMAND and no other effect (R79). -/
def runWord (s : State) : Host.Outcome State Fault Refusal :=
  match decode s.w with
  | .command i => exec i s
  | .illegal _ => .next (raise .illegalCommand s)

/-- A host write to W: W takes the word, and the write starts the command (R21, R70). -/
def issueWord (word : Word) (s : State) : Host.Outcome State Fault Refusal := runWord (s.setW word)

/-- A host write to a register number (R32): 0 to 5 are written, a write to any other number is ignored. A register takes the
low bits of the value that it has room for (log 3). -/
def hostWrite (number : Nat) (value : BitVec 64) (s : State) : Host.Outcome State Fault Refusal :=
  match number with
  | 0 => issueWord (value.setWidth 32) s
  | 1 => .next (s.setA0 (truncAddr s.params value.toNat))
  | 2 => .next (s.setA1 (truncAddr s.params value.toNat))
  | 3 => .next (s.setA2 (truncAddr s.params value.toNat))
  | 4 => .next (s.setA3 (truncAddr s.params value.toNat))
  | 5 => .next (s.setA4 (truncAddr s.params value.toNat))
  | _ => .next s

/-- The register r of context k as the host reads it (R32): 0 SEEDA, 1 SEEDB, 2 PREV; an unassigned number reads 0. -/
def readContext (s : State) (k r : Nat) : BitVec 64 :=
  match s.ds[k]?, r with
  | some c, 0 => c.seedA.setWidth 64
  | some c, 1 => c.seedB.setWidth 64
  | some c, 2 => c.prev.setWidth 64
  | _, _ => 0

/-- A host read of a register number (R32); it has no side effect (log 13). Numbers from 16 on are the contexts, four to a
context; every unassigned number reads as 0. -/
def hostRead (s : State) (number : Nat) : BitVec 64 :=
  match number with
  | 0 => s.w.setWidth 64
  | 1 => s.a0
  | 2 => s.a1
  | 3 => s.a2
  | 4 => s.a3
  | 5 => s.a4
  | 8 => s.ctrl.setWidth 64
  | 9 => s.status.setWidth 64
  | 10 => s.result0.setWidth 64
  | 11 => s.result1.setWidth 64
  | 12 => s.result2.setWidth 64
  | 13 => s.result3.setWidth 64
  | n => if n < 16 then 0 else readContext s ((n - 16) / 4) ((n - 16) % 4)

/-- A host write to memory; an address of 2^ADDR_BITS or above does not exist (R31, R50; log 14). -/
def hostWriteMem (address : Nat) (bytes : List Byte) (s : State) : Host.Outcome State Fault Refusal :=
  if address + bytes.length ≤ spaceSize s.params then .next (s.setMem (writeBytes s.mem address bytes))
  else .fault .hostWriteOutsideSpace

/-- One action of the host. How memory is given back is the model's choice, the spec is silent on it (DESIGN CHOICE, unsafe; log
20): a release takes one listed region off that is equal to the one it names, base and size, and changes nothing when there
is none, so giving back a part of a region changes nothing. -/
def performHost (act : HostAction) (s : State) : Host.Outcome State Fault Refusal :=
  match act with
  | .writeReg number value => hostWrite number value s
  | .writeMem address bytes => hostWriteMem address bytes s
  | .allocate region => .next (s.setAlloc (region :: s.alloc))
  | .release region => .next (s.setAlloc (s.alloc.erase region))
  | .reset => .next (resetEvent s)

/-- What the block does next: the host's next action, or nothing while none is pending (R314, R350: between commands it is
idle and keeps all its state). -/
def takeHostAction (s : State) : Host.Outcome State Fault Refusal :=
  match s.host with
  | [] => .next s
  | act :: rest => performHost act (s.setHost rest)

/-- The host action that issues the command word whose low `nbits` bits are `w`'s. -/
def issueAction (nbits w : Nat) : HostAction := .writeReg 0 (BitVec.ofNat 64 (w % 2 ^ nbits % 2 ^ 32))

end Sys2Proof.Machine
end

