-- ==== Sys2Proof/Machine/Step.lean ====
section
/-! DEFINITION. One step of the machine: the host's next action (log 1), and where a step takes its next command word from. -/

namespace Sys2Proof.Machine

/-- One step: the next host action is taken and carried out whole; a write to W runs its command to the end (R350). -/
def step (s : State) : Host.Outcome State Fault Refusal := takeHostAction s

/-- The state in which the very next step issues the command word w: the write to W stands first among the host's actions
(log 1). Nothing else changes. -/
def State.withFetchWord (s : State) (nbits w : Nat) : State := s.setHost (issueAction nbits w :: s.host)

end Sys2Proof.Machine
end

