-- ==== Sys2Proof/Safety.lean ====
section
/-! DEFINITION. The terms claims are stated in: the bytes a view covers (R53), the host's duties on the buffers of a command
(R59, R60) written as conditions on those bytes, the sequence of dither values of a context (R154), what a RUN or ZERO leaves
unchanged (R152, R267), and the invariant that every step keeps. -/

namespace Sys2Proof.Machine

/-- The address is a byte of one of the first `count` elements of a view (R53). -/
def InView (f : Format) (base stride count a : Nat) : Prop :=
  ∃ i < count, ∃ j < elemSize f, a = elemAddr base stride (elemSize f) i + j

/-- The address lies in memory the host has allocated (R60). -/
def Allocated (s : State) (a : Nat) : Prop := ∃ r ∈ s.alloc, r.base ≤ a ∧ a < r.base + r.size

/-- A byte that a RUN into format f writes: A0 is the address, A1 the stride, A4 the count (R78). -/
def InDestination (s : State) (f : Format) (a : Nat) : Prop := InView f s.a0.toNat s.a1.toNat s.a4.toNat a

/-- A byte that a RUN from format f reads: A2 is the address, A3 the stride, A4 the count (R78). -/
def InSource (s : State) (f : Format) (a : Nat) : Prop := InView f s.a2.toNat s.a3.toNat s.a4.toNat a

/-- A byte that a ZERO of format f writes: A0 is the address, A1 the stride, A2 the count (R78). -/
def InZeroed (s : State) (f : Format) (a : Nat) : Prop := InView f s.a0.toNat s.a1.toNat s.a2.toNat a

/-- The host's duties on one view (R59, R60): an aligned base, every byte below 2^ADDR_BITS, every byte allocated. -/
structure GoodView (s : State) (f : Format) (base stride count : Nat) : Prop where
  aligned   : base % baseAlign f = 0
  inSpace   : ∀ a, InView f base stride count a → a < spaceSize s.params
  allocated : ∀ a, InView f base stride count a → Allocated s a

/-- The host's duties on the buffers of a RUN (R59, R60). -/
structure RunContract (s : State) (src dst : Format) : Prop where
  destination : GoodView s dst s.a0.toNat s.a1.toNat s.a4.toNat
  source      : GoodView s src s.a2.toNat s.a3.toNat s.a4.toNat
  disjoint    : ∀ a, InDestination s dst a → ¬ InSource s src a

/-- A RUN from `src` to `dst` finds operands it can work with: strides of at least 1 (R150) and good buffers; with count 0
there is no buffer (R157, log 7). -/
structure RunReady (s : State) (src dst : Format) : Prop where
  dstStride : s.a1 ≠ 0
  srcStride : s.a3 ≠ 0
  buffers   : s.a4.toNat = 0 ∨ RunContract s src dst

/-- A ZERO finds operands it can work with (R267). -/
structure ZeroReady (s : State) (f : Format) : Prop where
  stride : s.a1 ≠ 0
  buffer : s.a2.toNat = 0 ∨ GoodView s f s.a0.toNat s.a1.toNat s.a2.toNat

/-- The address of source element i of a RUN (R53, R78). -/
def srcAddr (s : State) (f : Format) (i : Nat) : Nat := elemAddr s.a2.toNat s.a3.toNat (elemSize f) i

/-- The address of destination element i of a RUN or a ZERO (R53, R78). -/
def dstAddr (s : State) (f : Format) (i : Nat) : Nat := elemAddr s.a0.toNat s.a1.toNat (elemSize f) i

/-- The element of format f at an address. -/
def elemAt (s : State) (f : Format) (a : Nat) : Word := loadElem s.params.bigEndian s.mem f a

/-- A context after n dither steps (R154). -/
def ctxAfter (c : DitherCtx) : Nat → DitherCtx
  | 0 => c
  | n + 1 => (ditherStep (ctxAfter c n)).2

/-- The dither value that a context yields after n steps: sample n of a dithering RUN takes it (R154). -/
def ditherValue (c : DitherCtx) (n : Nat) : Int := (ditherStep (ctxAfter c n)).1

/-- The registers that RUN, ZERO and the dither commands leave alone, with the parameters, the allocation and the host's
pending actions. -/
structure SameRegisters (s t : State) : Prop where
  params : t.params = s.params
  w      : t.w = s.w
  a0     : t.a0 = s.a0
  a1     : t.a1 = s.a1
  a2     : t.a2 = s.a2
  a3     : t.a3 = s.a3
  a4     : t.a4 = s.a4
  ctrl   : t.ctrl = s.ctrl
  alloc  : t.alloc = s.alloc
  host   : t.host = s.host

/-- No RESULT register changes. -/
structure SameResults (s t : State) : Prop where
  result0 : t.result0 = s.result0
  result1 : t.result1 = s.result1
  result2 : t.result2 = s.result2
  result3 : t.result3 = s.result3

/-- All the side effects a RUN may have besides the destination elements (R152): STATUS is OK; a dithering RUN on context k
steps it once per sample, a plain one touches no context; every byte outside the destination elements reads as before. -/
structure RunFrame (s t : State) (dst : Format) (dither : Bool) (k : Nat) : Prop where
  status    : t.status = codeWord .ok
  registers : SameRegisters s t
  results   : SameResults s t
  contexts  : t.ds = if dither then s.ds.set k (ctxAfter (contextAt s k) s.a4.toNat) else s.ds
  memory    : ∀ a, ¬ InDestination s dst a → readByte t.mem a = readByte s.mem a

/-- All the side effects of a ZERO besides the destination elements (R267). -/
structure ZeroFrame (s t : State) (f : Format) : Prop where
  status    : t.status = codeWord .ok
  registers : SameRegisters s t
  results   : SameResults s t
  contexts  : t.ds = s.ds
  memory    : ∀ a, ¬ InZeroed s f a → readByte t.mem a = readByte s.mem a

/-- Every destination element of a RUN is the given function of its source element and its dither value. -/
def ElementsAre (s t : State) (src dst : Format) (k : Nat) (g : Word → Int → Word) : Prop :=
  ∀ i < s.a4.toNat,
    elemAt t dst (dstAddr s dst i) = g (elemAt s src (srcAddr s src i)) (ditherValue (contextAt s k) i)

/-- A PREV in the range of R104. -/
abbrev PrevInRange (p : Word) : Prop := -16384 ≤ p.toInt ∧ p.toInt ≤ 16382

/-- A register of ADDR_BITS bits holds a number below 2^ADDR_BITS (R22, R28). -/
abbrev FitsAddr (p : Config.Params) (a : Addr) : Prop := a.toNat < spaceSize p

/-- The invariant: memory is in canonical form and inside the address space (R50); the address registers fit ADDR_BITS bits
(R22, R28); CTRL[31:1] is 0 (R23); STATUS is one of the five codes (R24, R300); there are 1 to 256 contexts (R6); PREV_INIT
and every PREV lie in the range of R104. -/
structure StateInv (s : State) : Prop where
  memory    : Memory.wf s.mem
  inSpace   : ∀ c ∈ s.mem, c.1 < spaceSize s.params
  a0        : FitsAddr s.params s.a0
  a1        : FitsAddr s.params s.a1
  a2        : FitsAddr s.params s.a2
  a3        : FitsAddr s.params s.a3
  a4        : FitsAddr s.params s.a4
  workSp    : FitsAddr s.params s.work.sp
  workDp    : FitsAddr s.params s.work.dp
  workN     : FitsAddr s.params s.work.n
  ctrl      : s.ctrl &&& 0xFFFFFFFE = 0
  status    : s.status.toNat ≤ 4
  contexts  : 1 ≤ s.ds.length ∧ s.ds.length ≤ 256
  prevInit  : PrevInRange s.params.prevInit
  prevs     : ∀ c ∈ s.ds, PrevInRange c.prev

end Sys2Proof.Machine
end

