-- ==== Sys2Proof/Certificates/Slice0/Obligations.lean ====
section
/-! DEFINITION. The statements for the provers, with the tables of commands they range over. -/

namespace Sys2Proof.Claims

open Sys2Proof.Machine

/-! ## Tables of commands -/

/-- A converter command: its constructor and its two formats. -/
structure Row where
  command : Nat → Instr
  src     : Format
  dst     : Format

/-- The six copies (R260 to R266). -/
def copies : List Row :=
  [⟨.copyF32, .f32, .f32⟩, ⟨.copyI32, .i32, .i32⟩, ⟨.copyI24, .i24, .i24⟩, ⟨.copyI16, .i16, .i16⟩,
    ⟨.copyI8, .i8, .i8⟩, ⟨.copyU8, .u8, .u8⟩]

/-- The five integer to Float32 converters (R201 to R205). -/
def toFloats : List Row :=
  [⟨.cvtI32F32, .i32, .f32⟩, ⟨.cvtI24F32, .i24, .f32⟩, ⟨.cvtI16F32, .i16, .f32⟩, ⟨.cvtI8F32, .i8, .f32⟩,
    ⟨.cvtU8F32, .u8, .f32⟩]

/-- The nine widening converters (R207 to R212, R214 to R216). -/
def widenings : List Row :=
  [⟨.cvtI24I32, .i24, .i32⟩, ⟨.cvtI16I32, .i16, .i32⟩, ⟨.cvtI16I24, .i16, .i24⟩, ⟨.cvtI8I32, .i8, .i32⟩,
    ⟨.cvtI8I24, .i8, .i24⟩, ⟨.cvtI8I16, .i8, .i16⟩, ⟨.cvtU8I32, .u8, .i32⟩, ⟨.cvtU8I24, .u8, .i24⟩,
    ⟨.cvtU8I16, .u8, .i16⟩]

/-- The two offset converters (R213, R217). -/
def offsets : List Row := [⟨.cvtI8U8, .i8, .u8⟩, ⟨.cvtU8I8, .u8, .i8⟩]

/-- The nine plain narrowing converters (R231 to R239). -/
def narrowings : List Row :=
  [⟨.cvtI32I24, .i32, .i24⟩, ⟨.cvtI32I16, .i32, .i16⟩, ⟨.cvtI32I8, .i32, .i8⟩, ⟨.cvtI32U8, .i32, .u8⟩,
    ⟨.cvtI24I16, .i24, .i16⟩, ⟨.cvtI24I8, .i24, .i8⟩, ⟨.cvtI24U8, .i24, .u8⟩, ⟨.cvtI16I8, .i16, .i8⟩,
    ⟨.cvtI16U8, .i16, .u8⟩]

/-- The three dithered narrowing converters (R241 to R243). -/
def ditheredNarrowings : List Row :=
  [⟨.cvtI32I16D, .i32, .i16⟩, ⟨.cvtI32I8D, .i32, .i8⟩, ⟨.cvtI24I16D, .i24, .i16⟩]

/-- The six unimplemented converters (R245 to R250). -/
def unimplemented : List (Nat → Instr) :=
  [.cvtI32I24D, .cvtI32U8D, .cvtI24I8D, .cvtI24U8D, .cvtI16I8D, .cvtI16U8D]

/-- A Float32 to integer converter: its destination, its D and C bits and the tolerance of R282. -/
structure FloatRow extends Row where
  dither : Bool
  clip   : Bool
  tol    : Nat

/-- The twenty Float32 to integer converters (R171 to R190). -/
def fromFloats : List FloatRow :=
  [⟨⟨.cvtF32I32, .f32, .i32⟩, false, false, 0⟩, ⟨⟨.cvtF32I32C, .f32, .i32⟩, false, true, 0⟩,
    ⟨⟨.cvtF32I32D, .f32, .i32⟩, true, false, 3⟩, ⟨⟨.cvtF32I32Dc, .f32, .i32⟩, true, true, 3⟩,
    ⟨⟨.cvtF32I24, .f32, .i24⟩, false, false, 1⟩, ⟨⟨.cvtF32I24C, .f32, .i24⟩, false, true, 1⟩,
    ⟨⟨.cvtF32I24D, .f32, .i24⟩, true, false, 1⟩, ⟨⟨.cvtF32I24Dc, .f32, .i24⟩, true, true, 1⟩,
    ⟨⟨.cvtF32I16, .f32, .i16⟩, false, false, 0⟩, ⟨⟨.cvtF32I16C, .f32, .i16⟩, false, true, 0⟩,
    ⟨⟨.cvtF32I16D, .f32, .i16⟩, true, false, 0⟩, ⟨⟨.cvtF32I16Dc, .f32, .i16⟩, true, true, 0⟩,
    ⟨⟨.cvtF32I8, .f32, .i8⟩, false, false, 0⟩, ⟨⟨.cvtF32I8C, .f32, .i8⟩, false, true, 0⟩,
    ⟨⟨.cvtF32I8D, .f32, .i8⟩, true, false, 0⟩, ⟨⟨.cvtF32I8Dc, .f32, .i8⟩, true, true, 0⟩,
    ⟨⟨.cvtF32U8, .f32, .u8⟩, false, false, 0⟩, ⟨⟨.cvtF32U8C, .f32, .u8⟩, false, true, 0⟩,
    ⟨⟨.cvtF32U8D, .f32, .u8⟩, true, false, 0⟩, ⟨⟨.cvtF32U8Dc, .f32, .u8⟩, true, true, 0⟩]

/-- The converters that take no dither value. -/
def plainRows : List Row :=
  copies ++ toFloats ++ widenings ++ offsets ++ narrowings ++ (fromFloats.filter fun r => !r.dither).map (·.toRow)

/-- The implemented converters that take a dither value. -/
def ditheringRows : List Row := ditheredNarrowings ++ (fromFloats.filter fun r => r.dither).map (·.toRow)

/-- The six zero fills with their silence codes (R268 to R273). -/
def zeroFills : List (Instr × Format × Word) :=
  [(.zeroF32, .f32, 0), (.zeroI32, .i32, 0), (.zeroI24, .i24, 0), (.zeroI16, .i16, 0), (.zeroI8, .i8, 0),
    (.zeroU8, .u8, 0x80)]

/-- The 60 legal CONVIDs as R75 lists them. -/
def legalConvIds : List Nat :=
  [0x00, 0x04, 0x05, 0x06, 0x07, 0x08, 0x09, 0x0A, 0x0B, 0x0C, 0x0D, 0x0E, 0x0F, 0x10, 0x11, 0x12, 0x13, 0x14, 0x15,
    0x16, 0x17, 0x20, 0x24, 0x28, 0x2A, 0x2C, 0x2E, 0x30, 0x32, 0x34, 0x36, 0x40, 0x44, 0x48, 0x4C, 0x4E, 0x50, 0x52,
    0x54, 0x56, 0x60, 0x64, 0x68, 0x6C, 0x70, 0x72, 0x74, 0x76, 0x80, 0x84, 0x88, 0x8C, 0x90, 0x94, 0xA0, 0xA4, 0xA8,
    0xAC, 0xB0, 0xB4]

/-- FN lies in the legal set of R73 for the OPC. -/
def legalFn (opc fn : Nat) : Prop :=
  (opc = 0x01 ∧ fn ∈ legalConvIds) ∨ (opc = 0x02 ∧ fn ≤ 5) ∨ (opc = 0x03 ∧ fn ≤ 3) ∨ (4 ≤ opc ∧ opc ≤ 9 ∧ fn = 0) ∨
    (opc = 0x0A ∧ fn ≤ 1)

/-- A command word is illegal, in the words of R79. -/
def illegalByR79 (w : Word) : Prop :=
  w.toNat / 2 ^ 24 ≠ 0 ∨ (w.toNat % 2 ^ 8 = 0 ∨ 0x0B ≤ w.toNat % 2 ^ 8) ∨
    ¬ legalFn (w.toNat % 2 ^ 8) (w.toNat / 2 ^ 8 % 2 ^ 8) ∨
    (w.toNat / 2 ^ 16 % 2 ^ 8 ≠ 0 ∧ w.toNat % 2 ^ 8 ∈ [0x02, 0x03, 0x04, 0x0A])

/-- The registry as R135 prints it: RESULT0 for FN = 0, 1, 2, 3, none for NI. -/
def registryRow : Format → Format → List (Option Nat)
  | .f32, .f32 => [some 0x00, some 0x00, some 0x00, some 0x00]
  | .f32, .i32 => [some 0x07, some 0x06, some 0x05, some 0x04]
  | .f32, .i24 => [some 0x0B, some 0x0A, some 0x09, some 0x08]
  | .f32, .i16 => [some 0x0F, some 0x0E, some 0x0D, some 0x0C]
  | .f32, .i8 => [some 0x13, some 0x12, some 0x11, some 0x10]
  | .f32, .u8 => [some 0x17, some 0x16, some 0x15, some 0x14]
  | .i32, .f32 => [some 0x20, some 0x20, some 0x20, some 0x20]
  | .i32, .i32 => [some 0x24, some 0x24, some 0x24, some 0x24]
  | .i32, .i24 => [none, none, some 0x28, some 0x28]
  | .i32, .i16 => [some 0x2E, some 0x2E, some 0x2C, some 0x2C]
  | .i32, .i8 => [some 0x32, some 0x32, some 0x30, some 0x30]
  | .i32, .u8 => [none, none, some 0x34, some 0x34]
  | .i24, .f32 => [some 0x40, some 0x40, some 0x40, some 0x40]
  | .i24, .i32 => [some 0x44, some 0x44, some 0x44, some 0x44]
  | .i24, .i24 => [some 0x48, some 0x48, some 0x48, some 0x48]
  | .i24, .i16 => [some 0x4E, some 0x4E, some 0x4C, some 0x4C]
  | .i24, .i8 => [none, none, some 0x50, some 0x50]
  | .i24, .u8 => [none, none, some 0x54, some 0x54]
  | .i16, .f32 => [some 0x60, some 0x60, some 0x60, some 0x60]
  | .i16, .i32 => [some 0x64, some 0x64, some 0x64, some 0x64]
  | .i16, .i24 => [some 0x68, some 0x68, some 0x68, some 0x68]
  | .i16, .i16 => [some 0x6C, some 0x6C, some 0x6C, some 0x6C]
  | .i16, .i8 => [none, none, some 0x70, some 0x70]
  | .i16, .u8 => [none, none, some 0x74, some 0x74]
  | .i8, .f32 => [some 0x80, some 0x80, some 0x80, some 0x80]
  | .i8, .i32 => [some 0x84, some 0x84, some 0x84, some 0x84]
  | .i8, .i24 => [some 0x88, some 0x88, some 0x88, some 0x88]
  | .i8, .i16 => [some 0x8C, some 0x8C, some 0x8C, some 0x8C]
  | .i8, .i8 => [some 0x90, some 0x90, some 0x90, some 0x90]
  | .i8, .u8 => [some 0x94, some 0x94, some 0x94, some 0x94]
  | .u8, .f32 => [some 0xA0, some 0xA0, some 0xA0, some 0xA0]
  | .u8, .i32 => [some 0xA4, some 0xA4, some 0xA4, some 0xA4]
  | .u8, .i24 => [some 0xA8, some 0xA8, some 0xA8, some 0xA8]
  | .u8, .i16 => [some 0xAC, some 0xAC, some 0xAC, some 0xAC]
  | .u8, .i8 => [some 0xB0, some 0xB0, some 0xB0, some 0xB0]
  | .u8, .u8 => [some 0xB4, some 0xB4, some 0xB4, some 0xB4]

/-- The six format bits of R76. -/
def formatBits : List (Nat × Format) :=
  [(0x01, .f32), (0x02, .i32), (0x04, .i24), (0x08, .i16), (0x10, .i8), (0x20, .u8)]

/-- An operand register names a format: its low 32 bits with bit 31 cleared are the format's bit (R76). -/
abbrev Names (a : Addr) (f : Format) : Prop := (a.toNat % 2 ^ 31, f) ∈ formatBits

/-- An operand register names no format (R76). -/
def NamesNone (a : Addr) : Prop := ∀ f, ¬ Names a f

/-- The format of an ordinal is in the available mask of SELFMT: bit k of A0, k from 0 to 5 (R120). -/
abbrev Available (a : Addr) (k : Nat) : Prop := k ≤ 5 ∧ a.toNat.testBit k = true

/-! ## Arithmetic in the spec's words -/

/-- The logical value of a pattern (R58): two's complement, or the byte minus 128 for UInt8. -/
def logical (f : Format) (p : Word) : Int :=
  match f with
  | .f32 => 0
  | .i32 => Int.bmod p.toNat (2 ^ 32)
  | .i24 => Int.bmod p.toNat (2 ^ 24)
  | .i16 => Int.bmod p.toNat (2 ^ 16)
  | .i8 => Int.bmod p.toNat (2 ^ 8)
  | .u8 => (p.toNat % 2 ^ 8 : Nat) - 128

/-- The stored pattern of an integer (R155): its low bits, or r + 128 for UInt8. -/
def stored (f : Format) (r : Int) : Word :=
  match f with
  | .f32 => 0
  | .i32 => BitVec.ofInt 32 r
  | .i24 => BitVec.ofInt 32 (r % 2 ^ 24)
  | .i16 => BitVec.ofInt 32 (r % 2 ^ 16)
  | .i8 => BitVec.ofInt 32 (r % 2 ^ 8)
  | .u8 => BitVec.ofInt 32 ((r + 128) % 2 ^ 8)

/-- M of R170. -/
def magnitude : Format → ℚ
  | .f32 => 1
  | .i32 | .i24 => 2147483647
  | .i16 => 32767
  | .i8 | .u8 => 127

/-- The range of R170 is -M - 1 to M. -/
def lowest (f : Format) : ℚ := -magnitude f - 1

/-- The value before truncation (R170): scale, dither, clamp. -/
def scaled (f : Format) (dither clip : Bool) (x : ℚ) (d : Int) : ℚ :=
  let v := if dither then x * (magnitude f - 1) + (d : ℚ) / 32767 else x * magnitude f
  if clip then max (lowest f) (min v (magnitude f)) else v

/-- Truncation toward zero (R8). -/
def towardZero (q : ℚ) : Int := if 0 ≤ q then ⌊q⌋ else ⌈q⌉

/-- The stored pattern of F2I's result (R170): Int24 keeps the three high bytes. -/
def storedFixed (f : Format) (r : Int) : Word := if f = .i24 then stored .i24 (r / 2 ^ 8) else stored f r

/-- What R170 and R191 say of one destination element o: nothing of a `draw`, a value otherwise. -/
def FixedElement (f : Format) (dither clip : Bool) (p : Word) (d : Int) (o : Word) : Prop :=
  (∀ x, fval p = .finite x → (lowest f ≤ towardZero (scaled f dither clip x d)) →
    ((towardZero (scaled f dither clip x d) : ℚ) ≤ magnitude f) →
    o = storedFixed f (towardZero (scaled f dither clip x d))) ∧
  (clip = true → fval p = .posInf → o = storedFixed f ⌊magnitude f⌋) ∧
  (clip = true → fval p = .negInf → o = storedFixed f ⌊lowest f⌋)

/-- The high-order bits that a plain narrowing takes (R230 to R239), offset by 128 for UInt8. -/
def highBits (src dst : Format) (p : Word) : Word :=
  p >>> (sampleBits src - sampleBits dst) ^^^ (if dst = .u8 then 0x80 else 0)

/-- The left-justified pattern that a widening makes (R206 to R217), with the offset of a UInt8 source or destination
undone. -/
def leftBits (src dst : Format) (p : Word) : Word :=
  ((p ^^^ (if src = .u8 then 0x80 else 0)) <<< (sampleBits dst - sampleBits src)) ^^^ (if dst = .u8 then 0x80 else 0)

/-- The dithered narrowing of R240 on the logical value n: shift by one, add, shift into the narrow width, keep the low
bits. -/
def ditheredNarrow (src dst : Format) (p : Word) (d : Int) : Word :=
  stored dst ((logical src p * 2 ^ (32 - sampleBits src) / 2 + d) / 2 ^ (31 - sampleBits dst))

/-- Four DITHER16 or DITHERF commands in a row on one context, each ending in a next state. -/
def FourInARow (i : Instr) (s t1 t2 t3 t4 : State) : Prop :=
  exec i s = .next t1 ∧ exec i t1 = .next t2 ∧ exec i t2 = .next t3 ∧ exec i t3 = .next t4

/-- The command steps or sets the dither context k (R27): the five dither commands on k, and a RUN with DCTX = k on an
implemented converter whose D bit is 1. -/
def StepsContext (i : Instr) (k : Nat) : Prop :=
  i ∈ [.dinit k, .dither16 k, .ditherf k, .vdither16 k, .vditherf k] ∨ ∃ r ∈ ditheringRows, i = r.command k

/-- Byte j of an element as R55 stores it: the pattern's byte j on a little-endian target, its byte size - 1 - j on a big-endian
one. -/
def storedByte (be : Bool) (f : Format) (p : Word) (j : Nat) : Byte :=
  if be then p.extractLsb' (8 * (elemSize f - 1 - j)) 8 else p.extractLsb' (8 * j) 8

end Sys2Proof.Claims

open Sys2Proof Sys2Proof.Machine Sys2Proof.Claims

/-! ## Commands and their words -/

/-- R70, R350: the write of a legal word to W runs its command to the end in that step; around exec the step only takes the
host's action and lets W hold the word. The queue of host actions (log 1), and that W keeps the low 32 bits of a wider value
(log 3), are the model's. -/
def Obligations.StepRunsIssuedCommand : Prop :=
  (∀ (s : State) v rest i, s.host = .writeReg 0 v :: rest → decode (v.setWidth 32) = .command i →
    step s = exec i ((s.setHost rest).setW (v.setWidth 32))) ∧
  (∀ (s : State) i, WellFormed i → step (s.withFetchWord 32 (encode i).toNat) = exec i (s.setW (encode i)))

/-- R79: which words are illegal, and that an illegal one changes STATUS and nothing else of the block. The queue of host actions
(log 1), and that W keeps the low 32 bits of a wider value (log 3), are the model's. -/
def Obligations.IllegalWordsAreR79AndChangeOnlyStatus : Prop :=
  (∀ w, (∃ why, decode w = .illegal why) ↔ illegalByR79 w) ∧
  (∀ (s : State) v rest, s.host = .writeReg 0 v :: rest → illegalByR79 (v.setWidth 32) →
    step s = .next (((s.setHost rest).setW (v.setWidth 32)).setStatus 3))

/-- Decoding the encoding of any well-formed command gives the command back (R71 to R75). -/
def Obligations.DecodeEncode : Prop := ∀ i, WellFormed i → decode (encode i) = .command i

/-- A word that decodes is the encoding of the command it decodes to, and that command is well formed (R71 to R75). -/
def Obligations.EncodeDecode : Prop := ∀ w i, decode w = .command i → WellFormed i ∧ encode i = w

/-- R84: the worked encodings decode to the commands named there, and the illegal words named there to none. -/
def Obligations.WorkedEncodings : Prop :=
  decode 0x00010F01 = .command (.cvtF32I16Dc 1) ∧ decode 0x00004801 = .command (.copyI24 0) ∧
  decode 0x00000502 = .command .zeroU8 ∧ decode 0x00000003 = .command (.resolve false false) ∧
  decode 0x00000303 = .command (.resolve true true) ∧ decode 0x00000004 = .command .selfmt ∧
  decode 0x00020005 = .command (.dinit 2) ∧ decode 0x00000006 = .command (.dither16 0) ∧
  decode 0x00030009 = .command (.vditherf 3) ∧ decode 0x0000010A = .command (.setctrl true) ∧
  ∀ w ∈ [0x00000000#32, 0x0000030A#32, 0x00000101#32, 0x0000C001#32, 0x01000004#32, 0x00010002#32],
    ∀ i, decode w ≠ .command i

/-- R74, R75, R132: a CONVID made of two formats and the bits D and C is legal exactly when the pair has that variant. -/
def Obligations.ConvIdsAreTheRegistrysVariants : Prop :=
  ∀ src dst d c k, (decodeConvId (convId src dst d c) k).isSome =
    ((!d || hasD src dst) && (!c || (hasC src dst)))

/-! ## The whole machine -/

/-- Every step keeps the invariant `StateInv`. -/
def Obligations.StepKeepsInvariant : Prop := ∀ s t, StateInv s → step s = .next t → StateInv t

/-- The invariant holds at reset. -/
def Obligations.ResetMeetsInvariant : Prop := StateInv State.reset

/-- R340: what the reset event leaves in every piece of state. That it comes as a host action is the model's (log 12). -/
def Obligations.ResetEventValues : Prop :=
  ∀ s rest, s.host = .reset :: rest → ∃ t, step s = .next t ∧
    t.w = 0 ∧ t.a0 = 0 ∧ t.a1 = 0 ∧ t.a2 = 0 ∧ t.a3 = 0 ∧ t.a4 = 0 ∧ t.ctrl = 0 ∧ t.status = 0 ∧
    t.result0 = 0 ∧ t.result1 = 0 ∧ t.result2 = 0 ∧ t.result3 = 0 ∧ t.ds.length = s.ds.length ∧
    (∀ k, k < contexts s → contextAt t k = ⟨s.params.seedAInit, s.params.seedBInit, s.params.prevInit⟩) ∧
    t.mem = s.mem ∧ t.params = s.params ∧ t.host = rest

/-- R340: the reset state has the default seeds in four contexts, and the first DITHER16 on any of them returns 3174. -/
def Obligations.FirstDitherAfterReset : Prop :=
  State.reset.ds = List.replicate 4 ⟨22222, 5555555, 0⟩ ∧
  ∀ k < 4, ∃ t, exec (.dither16 k) State.reset = .next t ∧ t.result0 = 3174

/-- R32: what the host reads at every register number. -/
def Obligations.HostReadsRegisterNumbers : Prop :=
  ∀ s, hostRead s 0 = s.w.setWidth 64 ∧ hostRead s 1 = s.a0 ∧ hostRead s 2 = s.a1 ∧ hostRead s 3 = s.a2 ∧
    hostRead s 4 = s.a3 ∧ hostRead s 5 = s.a4 ∧ hostRead s 8 = s.ctrl.setWidth 64 ∧
    hostRead s 9 = s.status.setWidth 64 ∧ hostRead s 10 = s.result0.setWidth 64 ∧
    hostRead s 11 = s.result1.setWidth 64 ∧ hostRead s 12 = s.result2.setWidth 64 ∧
    hostRead s 13 = s.result3.setWidth 64 ∧
    (∀ k, k < contexts s → hostRead s (16 + 4 * k) = (contextAt s k).seedA.setWidth 64 ∧
      hostRead s (17 + 4 * k) = (contextAt s k).seedB.setWidth 64 ∧
      hostRead s (18 + 4 * k) = (contextAt s k).prev.setWidth 64) ∧
    (∀ k, hostRead s (19 + 4 * k) = 0) ∧ (∀ n, 16 + 4 * contexts s ≤ n → hostRead s n = 0) ∧
    hostRead s 6 = 0 ∧ hostRead s 7 = 0 ∧ hostRead s 14 = 0 ∧ hostRead s 15 = 0

/-- R32, R22: a host write to numbers 1 to 5 sets A0 to A4 to the value's low ADDR_BITS bits and nothing else, and a write to a
number above 5 changes nothing. That the low bits are kept is the model's choice (log 3). -/
def Obligations.HostWritesOperandRegisters : Prop :=
  ∀ s n v rest, s.host = .writeReg n v :: rest → 0 < n → ∃ t, step s = .next t ∧
    t.a0.toNat = (if n = 1 then v.toNat % 2 ^ s.params.addrBits.toNat else s.a0.toNat) ∧
    t.a1.toNat = (if n = 2 then v.toNat % 2 ^ s.params.addrBits.toNat else s.a1.toNat) ∧
    t.a2.toNat = (if n = 3 then v.toNat % 2 ^ s.params.addrBits.toNat else s.a2.toNat) ∧
    t.a3.toNat = (if n = 4 then v.toNat % 2 ^ s.params.addrBits.toNat else s.a3.toNat) ∧
    t.a4.toNat = (if n = 5 then v.toNat % 2 ^ s.params.addrBits.toNat else s.a4.toNat) ∧
    t = { s with a0 := t.a0, a1 := t.a1, a2 := t.a2, a3 := t.a3, a4 := t.a4, host := rest }

/-- R62(b): what the host writes to memory is what later commands read: each byte it writes reads back, every other byte is
left alone, and an address outside the space is a fault. The host's memory action and the fault are the model's (log 14). -/
def Obligations.HostMemoryWrites : Prop :=
  ∀ s a bs rest, s.host = .writeMem a bs :: rest →
    (2 ^ s.params.addrBits.toNat < a + bs.length → step s = .fault .hostWriteOutsideSpace) ∧
    (Memory.wf s.mem → a + bs.length ≤ 2 ^ s.params.addrBits.toNat →
      ∃ t, step s = .next t ∧ (∀ j (h : j < bs.length), readByte t.mem (a + j) = bs[j]) ∧
        (∀ x, x < a ∨ a + bs.length ≤ x → readByte t.mem x = readByte s.mem x) ∧
        t = { s with mem := t.mem, host := rest })

/-- R314, R350: with no host action pending the block is idle and keeps all its state (log 1). -/
def Obligations.IdleBlockKeepsItsState : Prop := ∀ s, s.host = [] → step s = .next s

/-- R22, R21, R33: no command writes W, an operand register, a parameter or a host action; R280: only SETCTRL changes CTRL. -/
def Obligations.CommandsKeepOperandRegisters : Prop :=
  ∀ i s t, exec i s = .next t →
    t.w = s.w ∧ t.a0 = s.a0 ∧ t.a1 = s.a1 ∧ t.a2 = s.a2 ∧ t.a3 = s.a3 ∧ t.a4 = s.a4 ∧ t.params = s.params ∧
    t.alloc = s.alloc ∧ t.host = s.host ∧ ((∀ a, i ≠ .setctrl a) → t.ctrl = s.ctrl)

/-- R302: a command that ends with a code other than OK has changed STATUS and nothing else, but for the sentinels in RESULT0:
0xFFFFFFFF after RESOLVE, 0 after SELFMT. An illegal word changes STATUS alone. -/
def Obligations.FailingCommandsChangeOnlyStatus : Prop :=
  (∀ i s t, exec i s = .next t → t.status ≠ 0 →
    t = (s.setStatus t.status).setResult0 t.result0 ∧
    ((i ≠ .selfmt ∧ ∀ c d, i ≠ .resolve c d) → t.result0 = s.result0) ∧
    (∀ c d, i = .resolve c d → t.result0 = 0xFFFFFFFF) ∧ (i = .selfmt → t.result0 = 0) ∧
    t.status ∈ [1#32, 2#32, 3#32, 4#32]) ∧
  (∀ s why, decode s.w = .illegal why → runWord s = .next (s.setStatus 3))

/-- R50: only RUN and ZERO reach memory: every other command leaves all of it as it is and takes no free value. -/
def Obligations.OnlyRunAndZeroReachMemory : Prop :=
  ∀ i s t, exec i s = .next t → (encode i).toNat % 2 ^ 8 ≠ 0x01 → (encode i).toNat % 2 ^ 8 ≠ 0x02 →
    t.mem = s.mem ∧ t.draws = s.draws ∧ t.work = s.work

/-- R112, R27, R77: a command changes no context but the one it steps or sets; a command that steps and sets none, a RUN on a
converter without dither among them whatever its DCTX, changes none. -/
def Obligations.CommandsTouchOneContext : Prop :=
  ∀ i s t, exec i s = .next t →
    t.ds.length = s.ds.length ∧ ∀ j, (∀ k, StepsContext i k → j ≠ k) → t.ds[j]? = s.ds[j]?

/-- R301: no command ends in a fault. -/
def Obligations.NoCommandFaults : Prop := ∀ i s r, exec i s ≠ .fault r

/-! ## Memory -/

/-- R54, R55, R51: every byte of a stored element is the byte of the pattern that the byte order puts there; the element reads
back as it was stored; exactly its bytes change; an element elsewhere reads as before. -/
def Obligations.LoadAfterStore : Prop :=
  ∀ be m f a p, Memory.wf m → p.toNat < 2 ^ sampleBits f →
    (∀ j < elemSize f, readByte (storeElem be m f a p) (a + j) = storedByte be f p j) ∧
    loadElem be (storeElem be m f a p) f a = p ∧ Memory.wf (storeElem be m f a p) ∧
    (∀ x, x < a ∨ a + elemSize f ≤ x → readByte (storeElem be m f a p) x = readByte m x) ∧
    (∀ g b, b + elemSize g ≤ a ∨ a + elemSize f ≤ b → loadElem be (storeElem be m f a p) g b = loadElem be m g b)

/-- R57, R56: the 24-bit packer's bytes in both byte orders, and the unpacker's value of what the packer stored. -/
def Obligations.PackAndUnpack24 : Prop :=
  ∀ m a (v : Word), Memory.wf m →
    (readBytes (pack24 false m a v.toInt) a 3 = [v.extractLsb' 8 8, v.extractLsb' 16 8, v.extractLsb' 24 8]) ∧
    (readBytes (pack24 true m a v.toInt) a 3 = [v.extractLsb' 24 8, v.extractLsb' 16 8, v.extractLsb' 8 8]) ∧
    (∀ be, unpack24 be (pack24 be m a v.toInt) a = v.toInt / 2 ^ 8 * 2 ^ 8)

/-! ## The dither generator -/

/-- R106 with R103: DITHER16 on a context the instance has steps it by the recurrence, in plain integers, and returns the
difference of the sums in RESULT0; nothing else changes but STATUS. -/
def Obligations.Dither16Result : Prop :=
  ∀ s k, k < contexts s → ∃ (a b : Word) (cur out : Int),
    a.toNat = ((contextAt s k).seedA.toNat * 196314165 + 907633515) % 2 ^ 32 ∧
    b.toNat = ((contextAt s k).seedB.toNat * 196314165 + 907633515) % 2 ^ 32 ∧
    cur = a.toInt / 2 ^ 18 + b.toInt / 2 ^ 18 ∧ out = cur - (contextAt s k).prev.toInt ∧
    exec (.dither16 k) s = .next (((s.setDs (s.ds.set k ⟨a, b, BitVec.ofInt 32 cur⟩)).setResult0
      (BitVec.ofInt 32 out)).setStatus 0)

/-- R107: DITHERF takes the step that DITHER16 takes and returns d / 32767 rounded once to binary32. -/
def Obligations.DitherfResult : Prop :=
  ∀ s k, k < contexts s → ∃ t, exec (.dither16 k) s = .next t ∧
    exec (.ditherf k) s = .next (t.setResult0 (rne32 ((ditherValue (contextAt s k) 0 : ℚ) / 32767)))

/-- R108: VDITHER16 leaves what four DITHER16 commands leave, lane j in RESULTj. -/
def Obligations.Vdither16IsFourDither16 : Prop :=
  ∀ s k, k < contexts s → ∃ t1 t2 t3 t4, FourInARow (.dither16 k) s t1 t2 t3 t4 ∧
    exec (.vdither16 k) s = .next ((((t4.setResult0 t1.result0).setResult1 t2.result0).setResult2 t3.result0).setResult3
      t4.result0)

/-- R109: VDITHERF leaves what four DITHERF commands leave, lane j in RESULTj. -/
def Obligations.VditherfIsFourDitherf : Prop :=
  ∀ s k, k < contexts s → ∃ t1 t2 t3 t4, FourInARow (.ditherf k) s t1 t2 t3 t4 ∧
    exec (.vditherf k) s = .next ((((t4.setResult0 t1.result0).setResult1 t2.result0).setResult2 t3.result0).setResult3
      t4.result0)

/-- R105: DINIT sets its context to the initial values and writes STATUS; nothing else changes. A context the instance does not
have is BAD_OPERAND. With the default constants the next DITHER16 returns 3174. -/
def Obligations.DinitResult : Prop :=
  ∀ s k, (k < contexts s → exec (.dinit k) s =
      .next ((s.setDs (s.ds.set k ⟨s.params.seedAInit, s.params.seedBInit, s.params.prevInit⟩)).setStatus 0)) ∧
    (contexts s ≤ k → exec (.dinit k) s = .next (s.setStatus 4)) ∧
    (k < contexts s → s.params = Config.defaultParams → ∃ t u, exec (.dinit k) s = .next t ∧ exec (.dither16 k) t = .next u ∧
      u.result0 = 3174)

/-- R104: with PREV in range, the sum and the output stay in their ranges, PREV takes the sum without overflow, and the next PREV
is in range. -/
def Obligations.DitherRanges : Prop :=
  ∀ c : DitherCtx, PrevInRange c.prev →
    -32766 ≤ (ditherStep c).1 ∧ (ditherStep c).1 ≤ 32766 ∧ PrevInRange (ditherStep c).2.prev ∧
    (ditherStep c).2.prev.toInt = (ditherStep c).1 + c.prev.toInt

/-- R110: lane j holds the seed j + 1 steps ahead; a lane advances by the four-step constants; the constants of the table. -/
def Obligations.LanesReproduceTheSequence : Prop :=
  (∀ seed j, laneSeed seed j = nextSeed^[j + 1] seed) ∧
  (∀ seed j, laneSeed (nextSeed^[4] seed) j = laneSeed seed j * laneMul 4 + laneAdd 4) ∧
  (laneMul 1, laneAdd 1) = (196314165, 907633515) ∧ (laneMul 2, laneAdd 2) = (3026498297, 2641306770) ∧
  (laneMul 3, laneAdd 3) = (473723277, 4111285669) ∧ (laneMul 4, laneAdd 4) = (2007447089, 4143921812)

/-- R111: the outputs telescope: n of them sum to the last sum minus the first PREV. -/
def Obligations.DitherOutputsTelescope : Prop :=
  ∀ (c : DitherCtx) n, ((List.range n).map (ditherValue c)).sum = (ctxAfter c n).prev.toInt - c.prev.toInt

/-- R306: a context index the instance does not have ends a dither command, and a dithering RUN, with BAD_OPERAND and no other
effect. -/
def Obligations.MissingContextIsBadOperand : Prop :=
  ∀ s k, contexts s ≤ k →
    (∀ i ∈ [Instr.dinit k, .dither16 k, .ditherf k, .vdither16 k, .vditherf k], exec i s = .next (s.setStatus 4)) ∧
    (∀ r ∈ ditheringRows, exec (r.command k) s = .next (s.setStatus 4))

/-! ## Selection -/

/-- R120, R121 with R123: a requested word that names no format gives NOT_SUPPORTED with RESULT0 = 0. For a requested word that
names a format, the selector returns it when it is available; else the available better format that FALLBACK_UP asks for,
the nearest or the best; else the nearest available worse one; else NOT_SUPPORTED with RESULT0 = 0. Nothing else changes. -/
def Obligations.SelfmtResult : Prop :=
  (∀ s, NamesNone s.a1 → exec .selfmt s = .next ((s.setResult0 0).setStatus 1)) ∧
  ∀ s f, Names s.a1 f →
    ((∃ k, Available s.a0 k) → ∃ k, Available s.a0 k ∧
      exec .selfmt s = .next ((s.setResult0 (BitVec.ofNat 32 (2 ^ k))).setStatus 0) ∧
      (Available s.a0 (ordinal f) → k = ordinal f) ∧
      (¬ Available s.a0 (ordinal f) → (∃ j, j < ordinal f ∧ Available s.a0 j) → k < ordinal f ∧
        (s.params.fallbackUp = .nearest → ∀ j, j < ordinal f → Available s.a0 j → j ≤ k) ∧
        (s.params.fallbackUp = .best → ∀ j, Available s.a0 j → k ≤ j)) ∧
      (¬ Available s.a0 (ordinal f) → (∀ j, j < ordinal f → ¬ Available s.a0 j) →
        ∀ j, Available s.a0 j → k ≤ j)) ∧
    ((∀ k, ¬ Available s.a0 k) → exec .selfmt s = .next ((s.setResult0 0).setStatus 1))

/-- R135: RESOLVE answers the cell of the table for its two formats and its FN, and NOT_IMPLEMENTED with the sentinel for NI. -/
def Obligations.ResolveFollowsTheRegistryTable : Prop :=
  ∀ s src dst clipOff ditherOff, Names s.a0 src → Names s.a1 dst →
    exec (.resolve clipOff ditherOff) s =
      match ((registryRow src dst)[clipOff.toNat + 2 * ditherOff.toNat]?).join with
      | some id => .next ((s.setResult0 (BitVec.ofNat 32 id)).setStatus 0)
      | none => .next ((s.setResult0 0xFFFFFFFF).setStatus 2)

/-- R131: if either word names no format, RESOLVE ends with NOT_SUPPORTED and the sentinel. -/
def Obligations.ResolveNoFormat : Prop :=
  ∀ s clipOff ditherOff, NamesNone s.a0 ∨ NamesNone s.a1 →
    exec (.resolve clipOff ditherOff) s = .next ((s.setResult0 0xFFFFFFFF).setStatus 1)

/-- R139: resolving a format to itself with any flags names the copy kernel, and the RUN word that carries the answer decodes to
that copy. -/
def Obligations.UnityPathIsCopy : Prop :=
  ∀ r ∈ copies, ∀ s clipOff ditherOff k, Names s.a0 r.src → Names s.a1 r.src → k < 256 →
    ∃ t, exec (.resolve clipOff ditherOff) s = .next t ∧ t.status = 0 ∧
      decode (commandWord 0x01 t.result0.toNat k) = .command (r.command k)

/-! ## RUN: checks -/

/-- R306: a stride of 0 ends a RUN, with its context at hand, and a ZERO with BAD_OPERAND and no other effect, with count 0 as
well. -/
def Obligations.ZeroStrideIsBadOperand : Prop :=
  (∀ r ∈ plainRows, ∀ s k, s.a1 = 0 ∨ s.a3 = 0 → exec (r.command k) s = .next (s.setStatus 4)) ∧
  (∀ r ∈ ditheringRows, ∀ s k, s.a1 = 0 ∨ s.a3 = 0 → exec (r.command k) s = .next (s.setStatus 4)) ∧
  (∀ z ∈ zeroFills, ∀ s, s.a1 = 0 → exec z.1 s = .next (s.setStatus 4))

/-- R244: a RUN on one of the six unimplemented conversions ends with NOT_IMPLEMENTED and no other effect, whatever the operands
and the context. -/
def Obligations.UnimplementedConversionsFailLoudly : Prop :=
  ∀ i ∈ unimplemented, ∀ s k, exec (i k) s = .next (s.setStatus 2)

/-- R59, R60: a RUN or ZERO that passes its checks is refused when the host has broken a duty on its buffers, and a misaligned
base is refused under that name. When the duties are looked at, and the names, are the model's (log 6, log 7). -/
def Obligations.BrokenBuffersAreRefused : Prop :=
  (∀ r ∈ plainRows, ∀ s k, s.a1 ≠ 0 → s.a3 ≠ 0 → s.a4.toNat ≠ 0 → ¬ RunContract s r.src r.dst →
    ∃ why, exec (r.command k) s = .refused why ∧
      (s.a0.toNat % baseAlign r.dst ≠ 0 → why = .misalignedBuffer)) ∧
  (∀ r ∈ ditheringRows, ∀ s k, k < contexts s → s.a1 ≠ 0 → s.a3 ≠ 0 → s.a4.toNat ≠ 0 → ¬ RunContract s r.src r.dst →
    ∃ why, exec (r.command k) s = .refused why ∧
      (s.a0.toNat % baseAlign r.dst ≠ 0 → why = .misalignedBuffer)) ∧
  (∀ z ∈ zeroFills, ∀ s, s.a1 ≠ 0 → s.a2.toNat ≠ 0 → ¬ GoodView s z.2.1 s.a0.toNat s.a1.toNat s.a2.toNat →
    ∃ why, exec z.1 s = .refused why ∧ (s.a0.toNat % baseAlign z.2.1 ≠ 0 → why = .misalignedBuffer))

/-- R77: a converter whose D bit is 0 ignores DCTX. -/
def Obligations.PlainConvertersIgnoreContext : Prop :=
  ∀ r ∈ plainRows, ∀ s j k, exec (r.command j) s = exec (r.command k) s

/-- R157: with count 0 a RUN that passes its checks accesses nothing and ends with OK. (With a misaligned base too: log 7.) -/
def Obligations.CountZeroDoesNothing : Prop :=
  (∀ r ∈ plainRows, ∀ s k, s.a1 ≠ 0 → s.a3 ≠ 0 → s.a4 = 0 →
    ∃ t, exec (r.command k) s = .next t ∧ t = (s.setWork t.work).setStatus 0) ∧
  (∀ r ∈ ditheringRows, ∀ s k, k < contexts s → s.a1 ≠ 0 → s.a3 ≠ 0 → s.a4 = 0 →
    ∃ t, exec (r.command k) s = .next t ∧ t = (s.setWork t.work).setStatus 0)

/-! ## RUN: results -/

/-- R260: a copy run gives every destination element the pattern of its source element, and changes nothing else. -/
def Obligations.CopyRuns : Prop :=
  ∀ r ∈ copies, ∀ s k, StateInv s → RunReady s r.src r.dst → ∃ t, exec (r.command k) s = .next t ∧
    RunFrame s t r.dst false k ∧ ElementsAre s t r.src r.dst k fun p _ => p

/-- R230: a plain narrowing run takes the high-order bits of every sample, with UInt8's offset, and changes nothing else. -/
def Obligations.PlainNarrowingRuns : Prop :=
  ∀ r ∈ narrowings, ∀ s k, StateInv s → RunReady s r.src r.dst → ∃ t, exec (r.command k) s = .next t ∧
    RunFrame s t r.dst false k ∧ ElementsAre s t r.src r.dst k fun p _ => highBits r.src r.dst p

/-- R206: a widening run puts every sample in the high-order bits with zeros below, undoing UInt8's offset, and changes nothing
else. -/
def Obligations.WideningRuns : Prop :=
  ∀ r ∈ widenings, ∀ s k, StateInv s → RunReady s r.src r.dst → ∃ t, exec (r.command k) s = .next t ∧
    RunFrame s t r.dst false k ∧ ElementsAre s t r.src r.dst k fun p _ => leftBits r.src r.dst p

/-- R213, R217: the two offset converters flip the top bit of every byte and change nothing else. -/
def Obligations.OffsetRuns : Prop :=
  ∀ r ∈ offsets, ∀ s k, StateInv s → RunReady s r.src r.dst → ∃ t, exec (r.command k) s = .next t ∧
    RunFrame s t r.dst false k ∧ ElementsAre s t r.src r.dst k fun p _ => p ^^^ 0x80

/-- R200: an integer to Float32 run gives every destination element n / 2^(B-1) rounded once, and changes nothing else. -/
def Obligations.IntegerToFloatRuns : Prop :=
  ∀ r ∈ toFloats, ∀ s k, StateInv s → RunReady s r.src r.dst → ∃ t, exec (r.command k) s = .next t ∧
    RunFrame s t r.dst false k ∧
    ElementsAre s t r.src r.dst k fun p _ => rne32 ((logical r.src p : ℚ) / 2 ^ (sampleBits r.src - 1))

/-- R240: a dithered narrowing run shifts, adds the sample's own dither value, shifts and keeps the low bits; it steps its
context once per sample and changes nothing else. -/
def Obligations.DitheredNarrowingRuns : Prop :=
  ∀ r ∈ ditheredNarrowings, ∀ s k, StateInv s → k < contexts s → RunReady s r.src r.dst →
    ∃ t, exec (r.command k) s = .next t ∧ RunFrame s t r.dst true k ∧
      ElementsAre s t r.src r.dst k (ditheredNarrow r.src r.dst)

/-- R170, R191: a Float32 to integer run, on the reference path or with tolerance 0, gives every destination element the value
of F2I; a `draw` is left open, and everything else is as R152 says whatever the samples are. -/
def Obligations.FloatToIntegerRuns : Prop :=
  ∀ r ∈ fromFloats, ∀ s k, StateInv s → (r.dither = true → k < contexts s) → RunReady s r.src r.dst →
    ∃ t, exec (r.command k) s = .next t ∧ RunFrame s t r.dst r.dither k ∧
      (accelOn s = false ∨ r.tol = 0 → ∀ i < s.a4.toNat,
        FixedElement r.dst r.dither r.clip (elemAt s r.src (srcAddr s r.src i)) (ditherValue (contextAt s k) i)
          (elemAt t r.dst (dstAddr s r.dst i)))

/-- R282: with CTRL.ACCEL = 1 every element of the multiple-of-4 prefix whose reference result is a value lies within the
tolerance of it, in logical values without wrapping; the elements after the prefix are the reference values; the rest of the
state is as on the reference path (R283, R284). -/
def Obligations.AcceleratedRunsStayInTheBand : Prop :=
  ∀ r ∈ fromFloats, ∀ s k, StateInv s → (r.dither = true → k < contexts s) → RunReady s r.src r.dst → accelOn s = true →
    ∃ t, exec (r.command k) s = .next t ∧ RunFrame s t r.dst r.dither k ∧
      ∀ i < s.a4.toNat, ∀ ref, floatToFixed r.dst r.dither r.clip (elemAt s r.src (srcAddr s r.src i))
          (ditherValue (contextAt s k) i) = some ref →
        (i < 4 * (s.a4.toNat / 4) →
          |logical r.dst (elemAt t r.dst (dstAddr s r.dst i)) - logical r.dst ref| ≤ r.tol) ∧
        (4 * (s.a4.toNat / 4) ≤ i → elemAt t r.dst (dstAddr s r.dst i) = ref)

/-- R282: a free value can select every value of a tolerance band, and selects none outside it. -/
def Obligations.BandAdmitsEveryValue : Prop :=
  ∀ lo hi o : Int, lo ≤ hi → hi - lo < 2 ^ 32 →
    ((lo ≤ o ∧ o ≤ hi) ↔ ∃ w, bandValue lo hi w = o)

/-- R267 to R273: a zero fill gives every destination element the format's silence code and changes nothing else. -/
def Obligations.ZeroFillRuns : Prop :=
  ∀ z ∈ zeroFills, ∀ s, StateInv s → ZeroReady s z.2.1 → ∃ t, exec z.1 s = .next t ∧ ZeroFrame s t z.2.1 ∧
    ∀ i < s.a2.toNat, elemAt t z.2.1 (dstAddr s z.2.1 i) = z.2.2

/-! ## SETCTRL -/

/-- R280: SETCTRL writes FN[0] to CTRL.ACCEL and OK to STATUS, and nothing else; in a state that meets the invariant CTRL is
then 0 or 1. -/
def Obligations.SetctrlResult : Prop :=
  ∀ s accel, ∃ t, exec (.setctrl accel) s = .next t ∧ accelOn t = accel ∧
    (∀ i, 0 < i → t.ctrl.getLsbD i = s.ctrl.getLsbD i) ∧ t = (s.setCtrl t.ctrl).setStatus 0 ∧
    (StateInv s → t.ctrl = if accel then 1 else 0)

/-! ## Numbers -/

/-- R9: the value of a binary32 pattern. -/
def Obligations.ValueOfBinary32Pattern : Prop :=
  ∀ b : Word, let sign : ℚ := if b.getLsbD 31 then -1 else 1
    let e : ℕ := b.toNat / 2 ^ 23 % 2 ^ 8
    let f : ℕ := b.toNat % 2 ^ 23
    (e = 255 → f ≠ 0 → fval b = .nan) ∧
    (e = 255 → f = 0 → fval b = if b.getLsbD 31 then .negInf else .posInf) ∧
    (e = 0 → fval b = .finite (sign * (f : ℚ) * (2 : ℚ) ^ (-149 : ℤ))) ∧
    (0 < e → e < 255 → fval b = .finite (sign * (2 ^ 23 + (f : ℚ)) * (2 : ℚ) ^ ((e : ℤ) - 150)))

/-- R9: rne32 gives a finite pattern nearest to q, the one with an even fraction when another value is as near, +0 for 0 and a
zero of q's sign when q rounds to zero. -/
def Obligations.RoundsToNearestEven : Prop :=
  ∀ q : ℚ, |q| ≤ 1 → ∃ g, fval (rne32 q) = .finite g ∧
    (∀ p x, fval p = .finite x → |g - q| ≤ |x - q|) ∧
    (∀ p x, fval p = .finite x → x ≠ g → |g - q| = |x - q| → (rne32 q).toNat % 2 = 0) ∧
    ((rne32 q).getLsbD 31 = true ↔ q < 0)

/-- R200: integer to Float32 is exact for 24, 16 and 8 sample bits. -/
def Obligations.NarrowIntegersConvertExactly : Prop :=
  ∀ bits ∈ [24, 16, 8], ∀ n : Int, -2 ^ (bits - 1) ≤ n → n < 2 ^ (bits - 1) →
    fval (i2f n bits) = .finite ((n : ℚ) / 2 ^ (bits - 1))

/-- R192: with dithering and |x| at most 1, F2I's result is in range without a clip and its magnitude is at most M - 1. -/
def Obligations.HeadroomHolds : Prop :=
  ∀ f ∈ [Format.i32, .i24, .i16, .i8, .u8], ∀ p x d, fval p = .finite x → |x| ≤ 1 → -32766 ≤ d → d ≤ 32766 →
    ∀ clip, ∃ r, f2i p d (maxMagnitude f) (lowBound f) (highBound f) true clip = some r ∧ |r| ≤ maxMagnitude f - 1

/-- R251: the dithered narrowing is in the destination's range exactly when the sum t is between -2^30 and 2^30 - 1, and its
stored value is the low bits of r in every case. -/
def Obligations.DitheredNarrowingWraps : Prop :=
  ∀ r ∈ ditheredNarrowings, ∀ p d,
    (let t := narrowSum (sampleBits r.src) (logical r.src p) d
     let n := narrowD (sampleBits r.src) (sampleBits r.dst) (logical r.src p) d
     ((-2 ^ 30 ≤ t ∧ t ≤ 2 ^ 30 - 1) ↔ (-2 ^ (sampleBits r.dst - 1) ≤ n ∧ n ≤ 2 ^ (sampleBits r.dst - 1) - 1)) ∧
     ∃ q, narrowDKernel r.src r.dst p d = some q ∧ (q.toNat : Int) = n % 2 ^ sampleBits r.dst)

/-- R218, R217: narrowing undoes widening bit for bit, and the two offset converters undo each other, in either order. -/
def Obligations.NarrowingUndoesWidening : Prop :=
  (∀ r ∈ widenings, ∀ p : Word, p.toNat < 2 ^ sampleBits r.src → ∀ d, ∃ q, widenKernel r.src r.dst p d = some q ∧
    narrowKernel r.dst r.src q d = some p) ∧
  (∀ p : Word, p.toNat < 2 ^ 8 → ∀ d, ∃ q, widenKernel .i8 .u8 p d = some q ∧ widenKernel .u8 .i8 q d = some p) ∧
  (∀ p : Word, p.toNat < 2 ^ 8 → ∀ d, ∃ q, widenKernel .u8 .i8 p d = some q ∧ widenKernel .i8 .u8 q d = some p)

/-- R274: every plain or clipping converter maps silence to silence. -/
def Obligations.SilenceStaysSilence : Prop :=
  (∀ f d, copyKernel (silence f) d = some (silence f)) ∧
  (∀ r ∈ fromFloats, r.dither = false → ∀ d, floatToFixed r.dst false r.clip (silence .f32) d = some (silence r.dst)) ∧
  (∀ r ∈ toFloats, ∀ d, fixedToFloat r.src (silence r.src) d = some (silence .f32)) ∧
  (∀ r ∈ widenings ++ offsets, ∀ d, widenKernel r.src r.dst (silence r.src) d = some (silence r.dst)) ∧
  (∀ r ∈ narrowings, ∀ d, narrowKernel r.src r.dst (silence r.src) d = some (silence r.dst))

/-- R194: Float32 to Int32 and back, plain, returns a value within 2^-30 of the start for every |f| up to 0.99. -/
def Obligations.RoundTripWithinTwoToMinusThirty : Prop :=
  ∀ p f d, fval p = .finite f → |f| ≤ 99 / 100 → ∃ q g, floatToFixed .i32 false false p d = some q ∧
    fval (rne32 ((logical .i32 q : ℚ) / 2 ^ 31)) = .finite g ∧ |g - f| ≤ 1 / 2 ^ 30
end

