-- ==== Sys2Proof/Laws/State.lean ====
section
/-! SUPPORT. What each setter of State does to each field: one lemma per field per setter, true by rfl. -/

namespace Sys2Proof.Laws

open Sys2Proof.Machine

variable (s : State)

@[simp] theorem setW_params (v : Word) : (s.setW v).params = s.params := rfl
@[simp] theorem setW_w (v : Word) : (s.setW v).w = v := rfl
@[simp] theorem setW_a0 (v : Word) : (s.setW v).a0 = s.a0 := rfl
@[simp] theorem setW_a1 (v : Word) : (s.setW v).a1 = s.a1 := rfl
@[simp] theorem setW_a2 (v : Word) : (s.setW v).a2 = s.a2 := rfl
@[simp] theorem setW_a3 (v : Word) : (s.setW v).a3 = s.a3 := rfl
@[simp] theorem setW_a4 (v : Word) : (s.setW v).a4 = s.a4 := rfl
@[simp] theorem setW_ctrl (v : Word) : (s.setW v).ctrl = s.ctrl := rfl
@[simp] theorem setW_status (v : Word) : (s.setW v).status = s.status := rfl
@[simp] theorem setW_result0 (v : Word) : (s.setW v).result0 = s.result0 := rfl
@[simp] theorem setW_result1 (v : Word) : (s.setW v).result1 = s.result1 := rfl
@[simp] theorem setW_result2 (v : Word) : (s.setW v).result2 = s.result2 := rfl
@[simp] theorem setW_result3 (v : Word) : (s.setW v).result3 = s.result3 := rfl
@[simp] theorem setW_ds (v : Word) : (s.setW v).ds = s.ds := rfl
@[simp] theorem setW_work (v : Word) : (s.setW v).work = s.work := rfl
@[simp] theorem setW_mem (v : Word) : (s.setW v).mem = s.mem := rfl
@[simp] theorem setW_alloc (v : Word) : (s.setW v).alloc = s.alloc := rfl
@[simp] theorem setW_draws (v : Word) : (s.setW v).draws = s.draws := rfl
@[simp] theorem setW_host (v : Word) : (s.setW v).host = s.host := rfl

@[simp] theorem setA0_params (v : Addr) : (s.setA0 v).params = s.params := rfl
@[simp] theorem setA0_w (v : Addr) : (s.setA0 v).w = s.w := rfl
@[simp] theorem setA0_a0 (v : Addr) : (s.setA0 v).a0 = v := rfl
@[simp] theorem setA0_a1 (v : Addr) : (s.setA0 v).a1 = s.a1 := rfl
@[simp] theorem setA0_a2 (v : Addr) : (s.setA0 v).a2 = s.a2 := rfl
@[simp] theorem setA0_a3 (v : Addr) : (s.setA0 v).a3 = s.a3 := rfl
@[simp] theorem setA0_a4 (v : Addr) : (s.setA0 v).a4 = s.a4 := rfl
@[simp] theorem setA0_ctrl (v : Addr) : (s.setA0 v).ctrl = s.ctrl := rfl
@[simp] theorem setA0_status (v : Addr) : (s.setA0 v).status = s.status := rfl
@[simp] theorem setA0_result0 (v : Addr) : (s.setA0 v).result0 = s.result0 := rfl
@[simp] theorem setA0_result1 (v : Addr) : (s.setA0 v).result1 = s.result1 := rfl
@[simp] theorem setA0_result2 (v : Addr) : (s.setA0 v).result2 = s.result2 := rfl
@[simp] theorem setA0_result3 (v : Addr) : (s.setA0 v).result3 = s.result3 := rfl
@[simp] theorem setA0_ds (v : Addr) : (s.setA0 v).ds = s.ds := rfl
@[simp] theorem setA0_work (v : Addr) : (s.setA0 v).work = s.work := rfl
@[simp] theorem setA0_mem (v : Addr) : (s.setA0 v).mem = s.mem := rfl
@[simp] theorem setA0_alloc (v : Addr) : (s.setA0 v).alloc = s.alloc := rfl
@[simp] theorem setA0_draws (v : Addr) : (s.setA0 v).draws = s.draws := rfl
@[simp] theorem setA0_host (v : Addr) : (s.setA0 v).host = s.host := rfl

@[simp] theorem setA1_params (v : Addr) : (s.setA1 v).params = s.params := rfl
@[simp] theorem setA1_w (v : Addr) : (s.setA1 v).w = s.w := rfl
@[simp] theorem setA1_a0 (v : Addr) : (s.setA1 v).a0 = s.a0 := rfl
@[simp] theorem setA1_a1 (v : Addr) : (s.setA1 v).a1 = v := rfl
@[simp] theorem setA1_a2 (v : Addr) : (s.setA1 v).a2 = s.a2 := rfl
@[simp] theorem setA1_a3 (v : Addr) : (s.setA1 v).a3 = s.a3 := rfl
@[simp] theorem setA1_a4 (v : Addr) : (s.setA1 v).a4 = s.a4 := rfl
@[simp] theorem setA1_ctrl (v : Addr) : (s.setA1 v).ctrl = s.ctrl := rfl
@[simp] theorem setA1_status (v : Addr) : (s.setA1 v).status = s.status := rfl
@[simp] theorem setA1_result0 (v : Addr) : (s.setA1 v).result0 = s.result0 := rfl
@[simp] theorem setA1_result1 (v : Addr) : (s.setA1 v).result1 = s.result1 := rfl
@[simp] theorem setA1_result2 (v : Addr) : (s.setA1 v).result2 = s.result2 := rfl
@[simp] theorem setA1_result3 (v : Addr) : (s.setA1 v).result3 = s.result3 := rfl
@[simp] theorem setA1_ds (v : Addr) : (s.setA1 v).ds = s.ds := rfl
@[simp] theorem setA1_work (v : Addr) : (s.setA1 v).work = s.work := rfl
@[simp] theorem setA1_mem (v : Addr) : (s.setA1 v).mem = s.mem := rfl
@[simp] theorem setA1_alloc (v : Addr) : (s.setA1 v).alloc = s.alloc := rfl
@[simp] theorem setA1_draws (v : Addr) : (s.setA1 v).draws = s.draws := rfl
@[simp] theorem setA1_host (v : Addr) : (s.setA1 v).host = s.host := rfl

@[simp] theorem setA2_params (v : Addr) : (s.setA2 v).params = s.params := rfl
@[simp] theorem setA2_w (v : Addr) : (s.setA2 v).w = s.w := rfl
@[simp] theorem setA2_a0 (v : Addr) : (s.setA2 v).a0 = s.a0 := rfl
@[simp] theorem setA2_a1 (v : Addr) : (s.setA2 v).a1 = s.a1 := rfl
@[simp] theorem setA2_a2 (v : Addr) : (s.setA2 v).a2 = v := rfl
@[simp] theorem setA2_a3 (v : Addr) : (s.setA2 v).a3 = s.a3 := rfl
@[simp] theorem setA2_a4 (v : Addr) : (s.setA2 v).a4 = s.a4 := rfl
@[simp] theorem setA2_ctrl (v : Addr) : (s.setA2 v).ctrl = s.ctrl := rfl
@[simp] theorem setA2_status (v : Addr) : (s.setA2 v).status = s.status := rfl
@[simp] theorem setA2_result0 (v : Addr) : (s.setA2 v).result0 = s.result0 := rfl
@[simp] theorem setA2_result1 (v : Addr) : (s.setA2 v).result1 = s.result1 := rfl
@[simp] theorem setA2_result2 (v : Addr) : (s.setA2 v).result2 = s.result2 := rfl
@[simp] theorem setA2_result3 (v : Addr) : (s.setA2 v).result3 = s.result3 := rfl
@[simp] theorem setA2_ds (v : Addr) : (s.setA2 v).ds = s.ds := rfl
@[simp] theorem setA2_work (v : Addr) : (s.setA2 v).work = s.work := rfl
@[simp] theorem setA2_mem (v : Addr) : (s.setA2 v).mem = s.mem := rfl
@[simp] theorem setA2_alloc (v : Addr) : (s.setA2 v).alloc = s.alloc := rfl
@[simp] theorem setA2_draws (v : Addr) : (s.setA2 v).draws = s.draws := rfl
@[simp] theorem setA2_host (v : Addr) : (s.setA2 v).host = s.host := rfl

@[simp] theorem setA3_params (v : Addr) : (s.setA3 v).params = s.params := rfl
@[simp] theorem setA3_w (v : Addr) : (s.setA3 v).w = s.w := rfl
@[simp] theorem setA3_a0 (v : Addr) : (s.setA3 v).a0 = s.a0 := rfl
@[simp] theorem setA3_a1 (v : Addr) : (s.setA3 v).a1 = s.a1 := rfl
@[simp] theorem setA3_a2 (v : Addr) : (s.setA3 v).a2 = s.a2 := rfl
@[simp] theorem setA3_a3 (v : Addr) : (s.setA3 v).a3 = v := rfl
@[simp] theorem setA3_a4 (v : Addr) : (s.setA3 v).a4 = s.a4 := rfl
@[simp] theorem setA3_ctrl (v : Addr) : (s.setA3 v).ctrl = s.ctrl := rfl
@[simp] theorem setA3_status (v : Addr) : (s.setA3 v).status = s.status := rfl
@[simp] theorem setA3_result0 (v : Addr) : (s.setA3 v).result0 = s.result0 := rfl
@[simp] theorem setA3_result1 (v : Addr) : (s.setA3 v).result1 = s.result1 := rfl
@[simp] theorem setA3_result2 (v : Addr) : (s.setA3 v).result2 = s.result2 := rfl
@[simp] theorem setA3_result3 (v : Addr) : (s.setA3 v).result3 = s.result3 := rfl
@[simp] theorem setA3_ds (v : Addr) : (s.setA3 v).ds = s.ds := rfl
@[simp] theorem setA3_work (v : Addr) : (s.setA3 v).work = s.work := rfl
@[simp] theorem setA3_mem (v : Addr) : (s.setA3 v).mem = s.mem := rfl
@[simp] theorem setA3_alloc (v : Addr) : (s.setA3 v).alloc = s.alloc := rfl
@[simp] theorem setA3_draws (v : Addr) : (s.setA3 v).draws = s.draws := rfl
@[simp] theorem setA3_host (v : Addr) : (s.setA3 v).host = s.host := rfl

@[simp] theorem setA4_params (v : Addr) : (s.setA4 v).params = s.params := rfl
@[simp] theorem setA4_w (v : Addr) : (s.setA4 v).w = s.w := rfl
@[simp] theorem setA4_a0 (v : Addr) : (s.setA4 v).a0 = s.a0 := rfl
@[simp] theorem setA4_a1 (v : Addr) : (s.setA4 v).a1 = s.a1 := rfl
@[simp] theorem setA4_a2 (v : Addr) : (s.setA4 v).a2 = s.a2 := rfl
@[simp] theorem setA4_a3 (v : Addr) : (s.setA4 v).a3 = s.a3 := rfl
@[simp] theorem setA4_a4 (v : Addr) : (s.setA4 v).a4 = v := rfl
@[simp] theorem setA4_ctrl (v : Addr) : (s.setA4 v).ctrl = s.ctrl := rfl
@[simp] theorem setA4_status (v : Addr) : (s.setA4 v).status = s.status := rfl
@[simp] theorem setA4_result0 (v : Addr) : (s.setA4 v).result0 = s.result0 := rfl
@[simp] theorem setA4_result1 (v : Addr) : (s.setA4 v).result1 = s.result1 := rfl
@[simp] theorem setA4_result2 (v : Addr) : (s.setA4 v).result2 = s.result2 := rfl
@[simp] theorem setA4_result3 (v : Addr) : (s.setA4 v).result3 = s.result3 := rfl
@[simp] theorem setA4_ds (v : Addr) : (s.setA4 v).ds = s.ds := rfl
@[simp] theorem setA4_work (v : Addr) : (s.setA4 v).work = s.work := rfl
@[simp] theorem setA4_mem (v : Addr) : (s.setA4 v).mem = s.mem := rfl
@[simp] theorem setA4_alloc (v : Addr) : (s.setA4 v).alloc = s.alloc := rfl
@[simp] theorem setA4_draws (v : Addr) : (s.setA4 v).draws = s.draws := rfl
@[simp] theorem setA4_host (v : Addr) : (s.setA4 v).host = s.host := rfl

@[simp] theorem setCtrl_params (v : Word) : (s.setCtrl v).params = s.params := rfl
@[simp] theorem setCtrl_w (v : Word) : (s.setCtrl v).w = s.w := rfl
@[simp] theorem setCtrl_a0 (v : Word) : (s.setCtrl v).a0 = s.a0 := rfl
@[simp] theorem setCtrl_a1 (v : Word) : (s.setCtrl v).a1 = s.a1 := rfl
@[simp] theorem setCtrl_a2 (v : Word) : (s.setCtrl v).a2 = s.a2 := rfl
@[simp] theorem setCtrl_a3 (v : Word) : (s.setCtrl v).a3 = s.a3 := rfl
@[simp] theorem setCtrl_a4 (v : Word) : (s.setCtrl v).a4 = s.a4 := rfl
@[simp] theorem setCtrl_ctrl (v : Word) : (s.setCtrl v).ctrl = v := rfl
@[simp] theorem setCtrl_status (v : Word) : (s.setCtrl v).status = s.status := rfl
@[simp] theorem setCtrl_result0 (v : Word) : (s.setCtrl v).result0 = s.result0 := rfl
@[simp] theorem setCtrl_result1 (v : Word) : (s.setCtrl v).result1 = s.result1 := rfl
@[simp] theorem setCtrl_result2 (v : Word) : (s.setCtrl v).result2 = s.result2 := rfl
@[simp] theorem setCtrl_result3 (v : Word) : (s.setCtrl v).result3 = s.result3 := rfl
@[simp] theorem setCtrl_ds (v : Word) : (s.setCtrl v).ds = s.ds := rfl
@[simp] theorem setCtrl_work (v : Word) : (s.setCtrl v).work = s.work := rfl
@[simp] theorem setCtrl_mem (v : Word) : (s.setCtrl v).mem = s.mem := rfl
@[simp] theorem setCtrl_alloc (v : Word) : (s.setCtrl v).alloc = s.alloc := rfl
@[simp] theorem setCtrl_draws (v : Word) : (s.setCtrl v).draws = s.draws := rfl
@[simp] theorem setCtrl_host (v : Word) : (s.setCtrl v).host = s.host := rfl

@[simp] theorem setStatus_params (v : Word) : (s.setStatus v).params = s.params := rfl
@[simp] theorem setStatus_w (v : Word) : (s.setStatus v).w = s.w := rfl
@[simp] theorem setStatus_a0 (v : Word) : (s.setStatus v).a0 = s.a0 := rfl
@[simp] theorem setStatus_a1 (v : Word) : (s.setStatus v).a1 = s.a1 := rfl
@[simp] theorem setStatus_a2 (v : Word) : (s.setStatus v).a2 = s.a2 := rfl
@[simp] theorem setStatus_a3 (v : Word) : (s.setStatus v).a3 = s.a3 := rfl
@[simp] theorem setStatus_a4 (v : Word) : (s.setStatus v).a4 = s.a4 := rfl
@[simp] theorem setStatus_ctrl (v : Word) : (s.setStatus v).ctrl = s.ctrl := rfl
@[simp] theorem setStatus_status (v : Word) : (s.setStatus v).status = v := rfl
@[simp] theorem setStatus_result0 (v : Word) : (s.setStatus v).result0 = s.result0 := rfl
@[simp] theorem setStatus_result1 (v : Word) : (s.setStatus v).result1 = s.result1 := rfl
@[simp] theorem setStatus_result2 (v : Word) : (s.setStatus v).result2 = s.result2 := rfl
@[simp] theorem setStatus_result3 (v : Word) : (s.setStatus v).result3 = s.result3 := rfl
@[simp] theorem setStatus_ds (v : Word) : (s.setStatus v).ds = s.ds := rfl
@[simp] theorem setStatus_work (v : Word) : (s.setStatus v).work = s.work := rfl
@[simp] theorem setStatus_mem (v : Word) : (s.setStatus v).mem = s.mem := rfl
@[simp] theorem setStatus_alloc (v : Word) : (s.setStatus v).alloc = s.alloc := rfl
@[simp] theorem setStatus_draws (v : Word) : (s.setStatus v).draws = s.draws := rfl
@[simp] theorem setStatus_host (v : Word) : (s.setStatus v).host = s.host := rfl

@[simp] theorem setResult0_params (v : Word) : (s.setResult0 v).params = s.params := rfl
@[simp] theorem setResult0_w (v : Word) : (s.setResult0 v).w = s.w := rfl
@[simp] theorem setResult0_a0 (v : Word) : (s.setResult0 v).a0 = s.a0 := rfl
@[simp] theorem setResult0_a1 (v : Word) : (s.setResult0 v).a1 = s.a1 := rfl
@[simp] theorem setResult0_a2 (v : Word) : (s.setResult0 v).a2 = s.a2 := rfl
@[simp] theorem setResult0_a3 (v : Word) : (s.setResult0 v).a3 = s.a3 := rfl
@[simp] theorem setResult0_a4 (v : Word) : (s.setResult0 v).a4 = s.a4 := rfl
@[simp] theorem setResult0_ctrl (v : Word) : (s.setResult0 v).ctrl = s.ctrl := rfl
@[simp] theorem setResult0_status (v : Word) : (s.setResult0 v).status = s.status := rfl
@[simp] theorem setResult0_result0 (v : Word) : (s.setResult0 v).result0 = v := rfl
@[simp] theorem setResult0_result1 (v : Word) : (s.setResult0 v).result1 = s.result1 := rfl
@[simp] theorem setResult0_result2 (v : Word) : (s.setResult0 v).result2 = s.result2 := rfl
@[simp] theorem setResult0_result3 (v : Word) : (s.setResult0 v).result3 = s.result3 := rfl
@[simp] theorem setResult0_ds (v : Word) : (s.setResult0 v).ds = s.ds := rfl
@[simp] theorem setResult0_work (v : Word) : (s.setResult0 v).work = s.work := rfl
@[simp] theorem setResult0_mem (v : Word) : (s.setResult0 v).mem = s.mem := rfl
@[simp] theorem setResult0_alloc (v : Word) : (s.setResult0 v).alloc = s.alloc := rfl
@[simp] theorem setResult0_draws (v : Word) : (s.setResult0 v).draws = s.draws := rfl
@[simp] theorem setResult0_host (v : Word) : (s.setResult0 v).host = s.host := rfl

@[simp] theorem setResult1_params (v : Word) : (s.setResult1 v).params = s.params := rfl
@[simp] theorem setResult1_w (v : Word) : (s.setResult1 v).w = s.w := rfl
@[simp] theorem setResult1_a0 (v : Word) : (s.setResult1 v).a0 = s.a0 := rfl
@[simp] theorem setResult1_a1 (v : Word) : (s.setResult1 v).a1 = s.a1 := rfl
@[simp] theorem setResult1_a2 (v : Word) : (s.setResult1 v).a2 = s.a2 := rfl
@[simp] theorem setResult1_a3 (v : Word) : (s.setResult1 v).a3 = s.a3 := rfl
@[simp] theorem setResult1_a4 (v : Word) : (s.setResult1 v).a4 = s.a4 := rfl
@[simp] theorem setResult1_ctrl (v : Word) : (s.setResult1 v).ctrl = s.ctrl := rfl
@[simp] theorem setResult1_status (v : Word) : (s.setResult1 v).status = s.status := rfl
@[simp] theorem setResult1_result0 (v : Word) : (s.setResult1 v).result0 = s.result0 := rfl
@[simp] theorem setResult1_result1 (v : Word) : (s.setResult1 v).result1 = v := rfl
@[simp] theorem setResult1_result2 (v : Word) : (s.setResult1 v).result2 = s.result2 := rfl
@[simp] theorem setResult1_result3 (v : Word) : (s.setResult1 v).result3 = s.result3 := rfl
@[simp] theorem setResult1_ds (v : Word) : (s.setResult1 v).ds = s.ds := rfl
@[simp] theorem setResult1_work (v : Word) : (s.setResult1 v).work = s.work := rfl
@[simp] theorem setResult1_mem (v : Word) : (s.setResult1 v).mem = s.mem := rfl
@[simp] theorem setResult1_alloc (v : Word) : (s.setResult1 v).alloc = s.alloc := rfl
@[simp] theorem setResult1_draws (v : Word) : (s.setResult1 v).draws = s.draws := rfl
@[simp] theorem setResult1_host (v : Word) : (s.setResult1 v).host = s.host := rfl

@[simp] theorem setResult2_params (v : Word) : (s.setResult2 v).params = s.params := rfl
@[simp] theorem setResult2_w (v : Word) : (s.setResult2 v).w = s.w := rfl
@[simp] theorem setResult2_a0 (v : Word) : (s.setResult2 v).a0 = s.a0 := rfl
@[simp] theorem setResult2_a1 (v : Word) : (s.setResult2 v).a1 = s.a1 := rfl
@[simp] theorem setResult2_a2 (v : Word) : (s.setResult2 v).a2 = s.a2 := rfl
@[simp] theorem setResult2_a3 (v : Word) : (s.setResult2 v).a3 = s.a3 := rfl
@[simp] theorem setResult2_a4 (v : Word) : (s.setResult2 v).a4 = s.a4 := rfl
@[simp] theorem setResult2_ctrl (v : Word) : (s.setResult2 v).ctrl = s.ctrl := rfl
@[simp] theorem setResult2_status (v : Word) : (s.setResult2 v).status = s.status := rfl
@[simp] theorem setResult2_result0 (v : Word) : (s.setResult2 v).result0 = s.result0 := rfl
@[simp] theorem setResult2_result1 (v : Word) : (s.setResult2 v).result1 = s.result1 := rfl
@[simp] theorem setResult2_result2 (v : Word) : (s.setResult2 v).result2 = v := rfl
@[simp] theorem setResult2_result3 (v : Word) : (s.setResult2 v).result3 = s.result3 := rfl
@[simp] theorem setResult2_ds (v : Word) : (s.setResult2 v).ds = s.ds := rfl
@[simp] theorem setResult2_work (v : Word) : (s.setResult2 v).work = s.work := rfl
@[simp] theorem setResult2_mem (v : Word) : (s.setResult2 v).mem = s.mem := rfl
@[simp] theorem setResult2_alloc (v : Word) : (s.setResult2 v).alloc = s.alloc := rfl
@[simp] theorem setResult2_draws (v : Word) : (s.setResult2 v).draws = s.draws := rfl
@[simp] theorem setResult2_host (v : Word) : (s.setResult2 v).host = s.host := rfl

@[simp] theorem setResult3_params (v : Word) : (s.setResult3 v).params = s.params := rfl
@[simp] theorem setResult3_w (v : Word) : (s.setResult3 v).w = s.w := rfl
@[simp] theorem setResult3_a0 (v : Word) : (s.setResult3 v).a0 = s.a0 := rfl
@[simp] theorem setResult3_a1 (v : Word) : (s.setResult3 v).a1 = s.a1 := rfl
@[simp] theorem setResult3_a2 (v : Word) : (s.setResult3 v).a2 = s.a2 := rfl
@[simp] theorem setResult3_a3 (v : Word) : (s.setResult3 v).a3 = s.a3 := rfl
@[simp] theorem setResult3_a4 (v : Word) : (s.setResult3 v).a4 = s.a4 := rfl
@[simp] theorem setResult3_ctrl (v : Word) : (s.setResult3 v).ctrl = s.ctrl := rfl
@[simp] theorem setResult3_status (v : Word) : (s.setResult3 v).status = s.status := rfl
@[simp] theorem setResult3_result0 (v : Word) : (s.setResult3 v).result0 = s.result0 := rfl
@[simp] theorem setResult3_result1 (v : Word) : (s.setResult3 v).result1 = s.result1 := rfl
@[simp] theorem setResult3_result2 (v : Word) : (s.setResult3 v).result2 = s.result2 := rfl
@[simp] theorem setResult3_result3 (v : Word) : (s.setResult3 v).result3 = v := rfl
@[simp] theorem setResult3_ds (v : Word) : (s.setResult3 v).ds = s.ds := rfl
@[simp] theorem setResult3_work (v : Word) : (s.setResult3 v).work = s.work := rfl
@[simp] theorem setResult3_mem (v : Word) : (s.setResult3 v).mem = s.mem := rfl
@[simp] theorem setResult3_alloc (v : Word) : (s.setResult3 v).alloc = s.alloc := rfl
@[simp] theorem setResult3_draws (v : Word) : (s.setResult3 v).draws = s.draws := rfl
@[simp] theorem setResult3_host (v : Word) : (s.setResult3 v).host = s.host := rfl

@[simp] theorem setDs_params (v : List DitherCtx) : (s.setDs v).params = s.params := rfl
@[simp] theorem setDs_w (v : List DitherCtx) : (s.setDs v).w = s.w := rfl
@[simp] theorem setDs_a0 (v : List DitherCtx) : (s.setDs v).a0 = s.a0 := rfl
@[simp] theorem setDs_a1 (v : List DitherCtx) : (s.setDs v).a1 = s.a1 := rfl
@[simp] theorem setDs_a2 (v : List DitherCtx) : (s.setDs v).a2 = s.a2 := rfl
@[simp] theorem setDs_a3 (v : List DitherCtx) : (s.setDs v).a3 = s.a3 := rfl
@[simp] theorem setDs_a4 (v : List DitherCtx) : (s.setDs v).a4 = s.a4 := rfl
@[simp] theorem setDs_ctrl (v : List DitherCtx) : (s.setDs v).ctrl = s.ctrl := rfl
@[simp] theorem setDs_status (v : List DitherCtx) : (s.setDs v).status = s.status := rfl
@[simp] theorem setDs_result0 (v : List DitherCtx) : (s.setDs v).result0 = s.result0 := rfl
@[simp] theorem setDs_result1 (v : List DitherCtx) : (s.setDs v).result1 = s.result1 := rfl
@[simp] theorem setDs_result2 (v : List DitherCtx) : (s.setDs v).result2 = s.result2 := rfl
@[simp] theorem setDs_result3 (v : List DitherCtx) : (s.setDs v).result3 = s.result3 := rfl
@[simp] theorem setDs_ds (v : List DitherCtx) : (s.setDs v).ds = v := rfl
@[simp] theorem setDs_work (v : List DitherCtx) : (s.setDs v).work = s.work := rfl
@[simp] theorem setDs_mem (v : List DitherCtx) : (s.setDs v).mem = s.mem := rfl
@[simp] theorem setDs_alloc (v : List DitherCtx) : (s.setDs v).alloc = s.alloc := rfl
@[simp] theorem setDs_draws (v : List DitherCtx) : (s.setDs v).draws = s.draws := rfl
@[simp] theorem setDs_host (v : List DitherCtx) : (s.setDs v).host = s.host := rfl

@[simp] theorem setWork_params (v : Work) : (s.setWork v).params = s.params := rfl
@[simp] theorem setWork_w (v : Work) : (s.setWork v).w = s.w := rfl
@[simp] theorem setWork_a0 (v : Work) : (s.setWork v).a0 = s.a0 := rfl
@[simp] theorem setWork_a1 (v : Work) : (s.setWork v).a1 = s.a1 := rfl
@[simp] theorem setWork_a2 (v : Work) : (s.setWork v).a2 = s.a2 := rfl
@[simp] theorem setWork_a3 (v : Work) : (s.setWork v).a3 = s.a3 := rfl
@[simp] theorem setWork_a4 (v : Work) : (s.setWork v).a4 = s.a4 := rfl
@[simp] theorem setWork_ctrl (v : Work) : (s.setWork v).ctrl = s.ctrl := rfl
@[simp] theorem setWork_status (v : Work) : (s.setWork v).status = s.status := rfl
@[simp] theorem setWork_result0 (v : Work) : (s.setWork v).result0 = s.result0 := rfl
@[simp] theorem setWork_result1 (v : Work) : (s.setWork v).result1 = s.result1 := rfl
@[simp] theorem setWork_result2 (v : Work) : (s.setWork v).result2 = s.result2 := rfl
@[simp] theorem setWork_result3 (v : Work) : (s.setWork v).result3 = s.result3 := rfl
@[simp] theorem setWork_ds (v : Work) : (s.setWork v).ds = s.ds := rfl
@[simp] theorem setWork_work (v : Work) : (s.setWork v).work = v := rfl
@[simp] theorem setWork_mem (v : Work) : (s.setWork v).mem = s.mem := rfl
@[simp] theorem setWork_alloc (v : Work) : (s.setWork v).alloc = s.alloc := rfl
@[simp] theorem setWork_draws (v : Work) : (s.setWork v).draws = s.draws := rfl
@[simp] theorem setWork_host (v : Work) : (s.setWork v).host = s.host := rfl

@[simp] theorem setMem_params (v : List Host.Cell) : (s.setMem v).params = s.params := rfl
@[simp] theorem setMem_w (v : List Host.Cell) : (s.setMem v).w = s.w := rfl
@[simp] theorem setMem_a0 (v : List Host.Cell) : (s.setMem v).a0 = s.a0 := rfl
@[simp] theorem setMem_a1 (v : List Host.Cell) : (s.setMem v).a1 = s.a1 := rfl
@[simp] theorem setMem_a2 (v : List Host.Cell) : (s.setMem v).a2 = s.a2 := rfl
@[simp] theorem setMem_a3 (v : List Host.Cell) : (s.setMem v).a3 = s.a3 := rfl
@[simp] theorem setMem_a4 (v : List Host.Cell) : (s.setMem v).a4 = s.a4 := rfl
@[simp] theorem setMem_ctrl (v : List Host.Cell) : (s.setMem v).ctrl = s.ctrl := rfl
@[simp] theorem setMem_status (v : List Host.Cell) : (s.setMem v).status = s.status := rfl
@[simp] theorem setMem_result0 (v : List Host.Cell) : (s.setMem v).result0 = s.result0 := rfl
@[simp] theorem setMem_result1 (v : List Host.Cell) : (s.setMem v).result1 = s.result1 := rfl
@[simp] theorem setMem_result2 (v : List Host.Cell) : (s.setMem v).result2 = s.result2 := rfl
@[simp] theorem setMem_result3 (v : List Host.Cell) : (s.setMem v).result3 = s.result3 := rfl
@[simp] theorem setMem_ds (v : List Host.Cell) : (s.setMem v).ds = s.ds := rfl
@[simp] theorem setMem_work (v : List Host.Cell) : (s.setMem v).work = s.work := rfl
@[simp] theorem setMem_mem (v : List Host.Cell) : (s.setMem v).mem = v := rfl
@[simp] theorem setMem_alloc (v : List Host.Cell) : (s.setMem v).alloc = s.alloc := rfl
@[simp] theorem setMem_draws (v : List Host.Cell) : (s.setMem v).draws = s.draws := rfl
@[simp] theorem setMem_host (v : List Host.Cell) : (s.setMem v).host = s.host := rfl

@[simp] theorem setAlloc_params (v : List Region) : (s.setAlloc v).params = s.params := rfl
@[simp] theorem setAlloc_w (v : List Region) : (s.setAlloc v).w = s.w := rfl
@[simp] theorem setAlloc_a0 (v : List Region) : (s.setAlloc v).a0 = s.a0 := rfl
@[simp] theorem setAlloc_a1 (v : List Region) : (s.setAlloc v).a1 = s.a1 := rfl
@[simp] theorem setAlloc_a2 (v : List Region) : (s.setAlloc v).a2 = s.a2 := rfl
@[simp] theorem setAlloc_a3 (v : List Region) : (s.setAlloc v).a3 = s.a3 := rfl
@[simp] theorem setAlloc_a4 (v : List Region) : (s.setAlloc v).a4 = s.a4 := rfl
@[simp] theorem setAlloc_ctrl (v : List Region) : (s.setAlloc v).ctrl = s.ctrl := rfl
@[simp] theorem setAlloc_status (v : List Region) : (s.setAlloc v).status = s.status := rfl
@[simp] theorem setAlloc_result0 (v : List Region) : (s.setAlloc v).result0 = s.result0 := rfl
@[simp] theorem setAlloc_result1 (v : List Region) : (s.setAlloc v).result1 = s.result1 := rfl
@[simp] theorem setAlloc_result2 (v : List Region) : (s.setAlloc v).result2 = s.result2 := rfl
@[simp] theorem setAlloc_result3 (v : List Region) : (s.setAlloc v).result3 = s.result3 := rfl
@[simp] theorem setAlloc_ds (v : List Region) : (s.setAlloc v).ds = s.ds := rfl
@[simp] theorem setAlloc_work (v : List Region) : (s.setAlloc v).work = s.work := rfl
@[simp] theorem setAlloc_mem (v : List Region) : (s.setAlloc v).mem = s.mem := rfl
@[simp] theorem setAlloc_alloc (v : List Region) : (s.setAlloc v).alloc = v := rfl
@[simp] theorem setAlloc_draws (v : List Region) : (s.setAlloc v).draws = s.draws := rfl
@[simp] theorem setAlloc_host (v : List Region) : (s.setAlloc v).host = s.host := rfl

@[simp] theorem setDraws_params (v : Nat) : (s.setDraws v).params = s.params := rfl
@[simp] theorem setDraws_w (v : Nat) : (s.setDraws v).w = s.w := rfl
@[simp] theorem setDraws_a0 (v : Nat) : (s.setDraws v).a0 = s.a0 := rfl
@[simp] theorem setDraws_a1 (v : Nat) : (s.setDraws v).a1 = s.a1 := rfl
@[simp] theorem setDraws_a2 (v : Nat) : (s.setDraws v).a2 = s.a2 := rfl
@[simp] theorem setDraws_a3 (v : Nat) : (s.setDraws v).a3 = s.a3 := rfl
@[simp] theorem setDraws_a4 (v : Nat) : (s.setDraws v).a4 = s.a4 := rfl
@[simp] theorem setDraws_ctrl (v : Nat) : (s.setDraws v).ctrl = s.ctrl := rfl
@[simp] theorem setDraws_status (v : Nat) : (s.setDraws v).status = s.status := rfl
@[simp] theorem setDraws_result0 (v : Nat) : (s.setDraws v).result0 = s.result0 := rfl
@[simp] theorem setDraws_result1 (v : Nat) : (s.setDraws v).result1 = s.result1 := rfl
@[simp] theorem setDraws_result2 (v : Nat) : (s.setDraws v).result2 = s.result2 := rfl
@[simp] theorem setDraws_result3 (v : Nat) : (s.setDraws v).result3 = s.result3 := rfl
@[simp] theorem setDraws_ds (v : Nat) : (s.setDraws v).ds = s.ds := rfl
@[simp] theorem setDraws_work (v : Nat) : (s.setDraws v).work = s.work := rfl
@[simp] theorem setDraws_mem (v : Nat) : (s.setDraws v).mem = s.mem := rfl
@[simp] theorem setDraws_alloc (v : Nat) : (s.setDraws v).alloc = s.alloc := rfl
@[simp] theorem setDraws_draws (v : Nat) : (s.setDraws v).draws = v := rfl
@[simp] theorem setDraws_host (v : Nat) : (s.setDraws v).host = s.host := rfl

@[simp] theorem setHost_params (v : List HostAction) : (s.setHost v).params = s.params := rfl
@[simp] theorem setHost_w (v : List HostAction) : (s.setHost v).w = s.w := rfl
@[simp] theorem setHost_a0 (v : List HostAction) : (s.setHost v).a0 = s.a0 := rfl
@[simp] theorem setHost_a1 (v : List HostAction) : (s.setHost v).a1 = s.a1 := rfl
@[simp] theorem setHost_a2 (v : List HostAction) : (s.setHost v).a2 = s.a2 := rfl
@[simp] theorem setHost_a3 (v : List HostAction) : (s.setHost v).a3 = s.a3 := rfl
@[simp] theorem setHost_a4 (v : List HostAction) : (s.setHost v).a4 = s.a4 := rfl
@[simp] theorem setHost_ctrl (v : List HostAction) : (s.setHost v).ctrl = s.ctrl := rfl
@[simp] theorem setHost_status (v : List HostAction) : (s.setHost v).status = s.status := rfl
@[simp] theorem setHost_result0 (v : List HostAction) : (s.setHost v).result0 = s.result0 := rfl
@[simp] theorem setHost_result1 (v : List HostAction) : (s.setHost v).result1 = s.result1 := rfl
@[simp] theorem setHost_result2 (v : List HostAction) : (s.setHost v).result2 = s.result2 := rfl
@[simp] theorem setHost_result3 (v : List HostAction) : (s.setHost v).result3 = s.result3 := rfl
@[simp] theorem setHost_ds (v : List HostAction) : (s.setHost v).ds = s.ds := rfl
@[simp] theorem setHost_work (v : List HostAction) : (s.setHost v).work = s.work := rfl
@[simp] theorem setHost_mem (v : List HostAction) : (s.setHost v).mem = s.mem := rfl
@[simp] theorem setHost_alloc (v : List HostAction) : (s.setHost v).alloc = s.alloc := rfl
@[simp] theorem setHost_draws (v : List HostAction) : (s.setHost v).draws = s.draws := rfl
@[simp] theorem setHost_host (v : List HostAction) : (s.setHost v).host = v := rfl

end Sys2Proof.Laws
end

