-- ==== Sys2Proof/Laws/Dither.lean ====
section
/-! SUPPORT. What a dither step does to the state, and the sequence of contexts it runs through (R103, R154). -/

namespace Sys2Proof.Laws

open Sys2Proof.Machine

theorem getD_set_self {α : Type} {l : List α} {k : Nat} (hk : k < l.length) (v d : α) : (l.set k v).getD k d = v := by
  simp [List.getD_eq_getElem?_getD, hk]

theorem set_getD_self {α : Type} (l : List α) (k : Nat) (d : α) : l.set k (l.getD k d) = l := by
  by_cases hk : k < l.length
  · apply List.ext_getElem (by simp)
    intro i h1 h2
    by_cases hi : k = i
    · subst hi; simp [List.getD_eq_getElem?_getD, hk]
    · simp [hi]
  · exact List.set_eq_of_length_le (by omega)

/-- Everything a dither step does (R103): the output of the pure step, and the context replaced by the one after it. -/
theorem nextDither_spec (k : Nat) (s : State) :
    nextDither k s = ((ditherStep (contextAt s k)).1, s.setDs (s.ds.set k (ditherStep (contextAt s k)).2)) := rfl

theorem contextAt_setDs_set {s : State} {k : Nat} (hk : k < contexts s) (c : DitherCtx) :
    contextAt (s.setDs (s.ds.set k c)) k = c := getD_set_self hk _ _

theorem contextAt_setDs_other {s : State} {j k : Nat} (h : j ≠ k) (c : DitherCtx) :
    contextAt (s.setDs (s.ds.set k c)) j = contextAt s j := by
  simp [contextAt, List.getD_eq_getElem?_getD, List.getElem?_set_ne (Ne.symm h)]

theorem ds_set_contextAt (s : State) (k : Nat) : s.ds.set k (contextAt s k) = s.ds := set_getD_self _ _ _

@[simp] theorem ctxAfter_zero (c : DitherCtx) : ctxAfter c 0 = c := rfl

theorem ctxAfter_succ (c : DitherCtx) (n : Nat) : ctxAfter c (n + 1) = (ditherStep (ctxAfter c n)).2 := rfl

@[simp] theorem ditherStep_seedA (c : DitherCtx) : (ditherStep c).2.seedA = nextSeed c.seedA := rfl

@[simp] theorem ditherStep_seedB (c : DitherCtx) : (ditherStep c).2.seedB = nextSeed c.seedB := rfl

theorem mulAdd_toNat (x a c : Word) : (x * a + c).toNat = (x.toNat * a.toNat + c.toNat) % 2 ^ 32 := by
  rw [BitVec.toNat_add, BitVec.toNat_mul, Nat.mod_add_mod]

/-- The seed recurrence in plain numbers (R100). -/
theorem nextSeed_toNat (seed : Word) :
    (nextSeed seed).toNat = (seed.toNat * Config.lcgA.toNat + Config.lcgC.toNat) % 2 ^ 32 := mulAdd_toNat ..

/-- The shift of a seed as an integer division (R101). -/
theorem shiftedSeed_eq (seed : Word) : shiftedSeed seed = seed.toInt / 2 ^ 18 := by
  simp [shiftedSeed, Config.ditherShift, Int.shiftRight_eq_div_pow]

/-- A shifted seed lies in -8192 to 8191 (R101). -/
theorem shiftedSeed_range (seed : Word) : -8192 ≤ shiftedSeed seed ∧ shiftedSeed seed ≤ 8191 := by
  have h1 := BitVec.toInt_lt (x := seed)
  have h2 := BitVec.le_toInt (x := seed)
  simp only [shiftedSeed, Config.ditherShift, Int.shiftRight_eq_div_pow]
  omega

/-- PREV takes the sum of the two shifted seeds, which fits it (R103). -/
theorem ditherStep_prev_toInt (c : DitherCtx) :
    (ditherStep c).2.prev.toInt = shiftedSeed (nextSeed c.seedA) + shiftedSeed (nextSeed c.seedB) := by
  have h1 := shiftedSeed_range (nextSeed c.seedA)
  have h2 := shiftedSeed_range (nextSeed c.seedB)
  simp only [ditherStep, BitVec.toInt_ofInt]
  rw [Int.bmod_eq_of_le] <;> omega

/-- The output is the difference of the sums (R103). -/
theorem ditherStep_output (c : DitherCtx) :
    (ditherStep c).1 = shiftedSeed (nextSeed c.seedA) + shiftedSeed (nextSeed c.seedB) - c.prev.toInt := rfl

/-- The sequence of a context's values and sums (R154). -/
theorem ditherValue_eq (c : DitherCtx) (n : Nat) :
    ditherValue c n = (ctxAfter c (n + 1)).prev.toInt - (ctxAfter c n).prev.toInt := by
  rw [ctxAfter_succ, ditherStep_prev_toInt]
  exact ditherStep_output _

end Sys2Proof.Laws
end

