-- ==== Sys2Proof/Laws/Encoding.lean ====
section
/-! SUPPORT. The four fields of a command word that was written from its fields (R71). -/

namespace Sys2Proof.Laws

@[simp] theorem opcField_commandWord (opc fn k : Nat) : opcField (commandWord opc fn k) = opc % 256 := by
  have h : (commandWord opc fn k).extractLsb' 0 8 = BitVec.ofNat 8 opc := by
    simp only [commandWord]; ext i hi; simp only [BitVec.getElem_extractLsb', BitVec.getLsbD_append]; simp [hi]
  simp [opcField, h]

@[simp] theorem fnField_commandWord (opc fn k : Nat) : fnField (commandWord opc fn k) = fn % 256 := by
  have h : (commandWord opc fn k).extractLsb' 8 8 = BitVec.ofNat 8 fn := by
    simp only [commandWord]; ext i hi; simp only [BitVec.getElem_extractLsb', BitVec.getLsbD_append]
    simp [hi, BitVec.getLsbD_eq_getElem]
  simp [fnField, h]

@[simp] theorem dctxField_commandWord (opc fn k : Nat) : dctxField (commandWord opc fn k) = k % 256 := by
  have h : (commandWord opc fn k).extractLsb' 16 8 = BitVec.ofNat 8 k := by
    simp only [commandWord]; ext i hi; simp only [BitVec.getElem_extractLsb', BitVec.getLsbD_append]
    simp [hi, show ¬ 16 + i < 8 by omega, show 16 + i - 8 = 8 + i by omega, BitVec.getLsbD_eq_getElem]
  simp [dctxField, h]

@[simp] theorem zeroField_commandWord (opc fn k : Nat) : zeroField (commandWord opc fn k) = 0 := by
  have h : (commandWord opc fn k).extractLsb' 24 8 = 0 := by
    simp only [commandWord]; ext i hi; simp only [BitVec.getElem_extractLsb', BitVec.getLsbD_append]
    simp [show ¬ 24 + i < 8 by omega, show 24 + i - 8 = 16 + i by omega, show ¬ 16 + i < 8 by omega,
      show 16 + i - 8 = 8 + i by omega]
  simp [zeroField, h]

/-- A word is the command word of its four fields when the top one is 0. -/
theorem commandWord_fields (w : Word) (h : zeroField w = 0) : commandWord (opcField w) (fnField w) (dctxField w) = w := by
  have hz : w.extractLsb' 24 8 = 0 := BitVec.eq_of_toNat_eq h
  simp only [commandWord, opcField, fnField, dctxField, BitVec.ofNat_toNat, BitVec.setWidth_eq]
  rw [show (0#8) = w.extractLsb' 24 8 from hz.symm]
  ext i hi
  simp only [BitVec.getElem_append, BitVec.getElem_extractLsb']
  split
  · simp [hi]
  · split
    · simp [show 8 + (i - 8) = i by omega, hi]
    · split
      · simp [show 16 + (i - 8 - 8) = i by omega, hi]
      · simp [show 24 + (i - 8 - 8 - 8) = i by omega, hi]

end Sys2Proof.Laws
end

