-- ==== Sys2Proof/Laws/PerInstr.lean ====
section
/-! SUPPORT. What every command's word looks like (R71, R77), said for each constructor. -/

namespace Sys2Proof.Laws.EncodedWord

/-- The encoded word has a zero top byte, an opcode of R72 and, for a well-formed command, its context index in DCTX, which is 0 for a
command without one (R77). -/
def Statement (i : Instr) : Prop :=
  zeroField (encode i) = 0 ∧ (1 ≤ opcField (encode i) ∧ opcField (encode i) ≤ 10) ∧
    (WellFormed i → dctxField (encode i) = (dctxOf i).getD 0)

theorem of_commandWord {i : Instr} {opc fn k : Nat} (h : encode i = commandWord opc fn k) (hk : (dctxOf i).getD 0 = k)
    (h1 : 1 ≤ opc) (h2 : opc ≤ 10) : Statement i := by
  refine ⟨by simp [h], ⟨by simp [h]; omega, by simp [h]; omega⟩, fun hw => ?_⟩
  rw [h, Laws.dctxField_commandWord, hk, Nat.mod_eq_of_lt]
  cases hd : dctxOf i with
  | none => simp [hd] at hk; omega
  | some j => have := hw j hd; simp [hd] at hk; omega

theorem copyF32 (dctx : Nat) : Statement (.copyF32 dctx) := of_commandWord rfl rfl (by decide) (by decide)
theorem cvtF32I32 (dctx : Nat) : Statement (.cvtF32I32 dctx) := of_commandWord rfl rfl (by decide) (by decide)
theorem cvtF32I32C (dctx : Nat) : Statement (.cvtF32I32C dctx) := of_commandWord rfl rfl (by decide) (by decide)
theorem cvtF32I32D (dctx : Nat) : Statement (.cvtF32I32D dctx) := of_commandWord rfl rfl (by decide) (by decide)
theorem cvtF32I32Dc (dctx : Nat) : Statement (.cvtF32I32Dc dctx) := of_commandWord rfl rfl (by decide) (by decide)
theorem cvtF32I24 (dctx : Nat) : Statement (.cvtF32I24 dctx) := of_commandWord rfl rfl (by decide) (by decide)
theorem cvtF32I24C (dctx : Nat) : Statement (.cvtF32I24C dctx) := of_commandWord rfl rfl (by decide) (by decide)
theorem cvtF32I24D (dctx : Nat) : Statement (.cvtF32I24D dctx) := of_commandWord rfl rfl (by decide) (by decide)
theorem cvtF32I24Dc (dctx : Nat) : Statement (.cvtF32I24Dc dctx) := of_commandWord rfl rfl (by decide) (by decide)
theorem cvtF32I16 (dctx : Nat) : Statement (.cvtF32I16 dctx) := of_commandWord rfl rfl (by decide) (by decide)
theorem cvtF32I16C (dctx : Nat) : Statement (.cvtF32I16C dctx) := of_commandWord rfl rfl (by decide) (by decide)
theorem cvtF32I16D (dctx : Nat) : Statement (.cvtF32I16D dctx) := of_commandWord rfl rfl (by decide) (by decide)
theorem cvtF32I16Dc (dctx : Nat) : Statement (.cvtF32I16Dc dctx) := of_commandWord rfl rfl (by decide) (by decide)
theorem cvtF32I8 (dctx : Nat) : Statement (.cvtF32I8 dctx) := of_commandWord rfl rfl (by decide) (by decide)
theorem cvtF32I8C (dctx : Nat) : Statement (.cvtF32I8C dctx) := of_commandWord rfl rfl (by decide) (by decide)
theorem cvtF32I8D (dctx : Nat) : Statement (.cvtF32I8D dctx) := of_commandWord rfl rfl (by decide) (by decide)
theorem cvtF32I8Dc (dctx : Nat) : Statement (.cvtF32I8Dc dctx) := of_commandWord rfl rfl (by decide) (by decide)
theorem cvtF32U8 (dctx : Nat) : Statement (.cvtF32U8 dctx) := of_commandWord rfl rfl (by decide) (by decide)
theorem cvtF32U8C (dctx : Nat) : Statement (.cvtF32U8C dctx) := of_commandWord rfl rfl (by decide) (by decide)
theorem cvtF32U8D (dctx : Nat) : Statement (.cvtF32U8D dctx) := of_commandWord rfl rfl (by decide) (by decide)
theorem cvtF32U8Dc (dctx : Nat) : Statement (.cvtF32U8Dc dctx) := of_commandWord rfl rfl (by decide) (by decide)
theorem cvtI32F32 (dctx : Nat) : Statement (.cvtI32F32 dctx) := of_commandWord rfl rfl (by decide) (by decide)
theorem copyI32 (dctx : Nat) : Statement (.copyI32 dctx) := of_commandWord rfl rfl (by decide) (by decide)
theorem cvtI32I24 (dctx : Nat) : Statement (.cvtI32I24 dctx) := of_commandWord rfl rfl (by decide) (by decide)
theorem cvtI32I24D (dctx : Nat) : Statement (.cvtI32I24D dctx) := of_commandWord rfl rfl (by decide) (by decide)
theorem cvtI32I16 (dctx : Nat) : Statement (.cvtI32I16 dctx) := of_commandWord rfl rfl (by decide) (by decide)
theorem cvtI32I16D (dctx : Nat) : Statement (.cvtI32I16D dctx) := of_commandWord rfl rfl (by decide) (by decide)
theorem cvtI32I8 (dctx : Nat) : Statement (.cvtI32I8 dctx) := of_commandWord rfl rfl (by decide) (by decide)
theorem cvtI32I8D (dctx : Nat) : Statement (.cvtI32I8D dctx) := of_commandWord rfl rfl (by decide) (by decide)
theorem cvtI32U8 (dctx : Nat) : Statement (.cvtI32U8 dctx) := of_commandWord rfl rfl (by decide) (by decide)
theorem cvtI32U8D (dctx : Nat) : Statement (.cvtI32U8D dctx) := of_commandWord rfl rfl (by decide) (by decide)
theorem cvtI24F32 (dctx : Nat) : Statement (.cvtI24F32 dctx) := of_commandWord rfl rfl (by decide) (by decide)
theorem cvtI24I32 (dctx : Nat) : Statement (.cvtI24I32 dctx) := of_commandWord rfl rfl (by decide) (by decide)
theorem copyI24 (dctx : Nat) : Statement (.copyI24 dctx) := of_commandWord rfl rfl (by decide) (by decide)
theorem cvtI24I16 (dctx : Nat) : Statement (.cvtI24I16 dctx) := of_commandWord rfl rfl (by decide) (by decide)
theorem cvtI24I16D (dctx : Nat) : Statement (.cvtI24I16D dctx) := of_commandWord rfl rfl (by decide) (by decide)
theorem cvtI24I8 (dctx : Nat) : Statement (.cvtI24I8 dctx) := of_commandWord rfl rfl (by decide) (by decide)
theorem cvtI24I8D (dctx : Nat) : Statement (.cvtI24I8D dctx) := of_commandWord rfl rfl (by decide) (by decide)
theorem cvtI24U8 (dctx : Nat) : Statement (.cvtI24U8 dctx) := of_commandWord rfl rfl (by decide) (by decide)
theorem cvtI24U8D (dctx : Nat) : Statement (.cvtI24U8D dctx) := of_commandWord rfl rfl (by decide) (by decide)
theorem cvtI16F32 (dctx : Nat) : Statement (.cvtI16F32 dctx) := of_commandWord rfl rfl (by decide) (by decide)
theorem cvtI16I32 (dctx : Nat) : Statement (.cvtI16I32 dctx) := of_commandWord rfl rfl (by decide) (by decide)
theorem cvtI16I24 (dctx : Nat) : Statement (.cvtI16I24 dctx) := of_commandWord rfl rfl (by decide) (by decide)
theorem copyI16 (dctx : Nat) : Statement (.copyI16 dctx) := of_commandWord rfl rfl (by decide) (by decide)
theorem cvtI16I8 (dctx : Nat) : Statement (.cvtI16I8 dctx) := of_commandWord rfl rfl (by decide) (by decide)
theorem cvtI16I8D (dctx : Nat) : Statement (.cvtI16I8D dctx) := of_commandWord rfl rfl (by decide) (by decide)
theorem cvtI16U8 (dctx : Nat) : Statement (.cvtI16U8 dctx) := of_commandWord rfl rfl (by decide) (by decide)
theorem cvtI16U8D (dctx : Nat) : Statement (.cvtI16U8D dctx) := of_commandWord rfl rfl (by decide) (by decide)
theorem cvtI8F32 (dctx : Nat) : Statement (.cvtI8F32 dctx) := of_commandWord rfl rfl (by decide) (by decide)
theorem cvtI8I32 (dctx : Nat) : Statement (.cvtI8I32 dctx) := of_commandWord rfl rfl (by decide) (by decide)
theorem cvtI8I24 (dctx : Nat) : Statement (.cvtI8I24 dctx) := of_commandWord rfl rfl (by decide) (by decide)
theorem cvtI8I16 (dctx : Nat) : Statement (.cvtI8I16 dctx) := of_commandWord rfl rfl (by decide) (by decide)
theorem copyI8 (dctx : Nat) : Statement (.copyI8 dctx) := of_commandWord rfl rfl (by decide) (by decide)
theorem cvtI8U8 (dctx : Nat) : Statement (.cvtI8U8 dctx) := of_commandWord rfl rfl (by decide) (by decide)
theorem cvtU8F32 (dctx : Nat) : Statement (.cvtU8F32 dctx) := of_commandWord rfl rfl (by decide) (by decide)
theorem cvtU8I32 (dctx : Nat) : Statement (.cvtU8I32 dctx) := of_commandWord rfl rfl (by decide) (by decide)
theorem cvtU8I24 (dctx : Nat) : Statement (.cvtU8I24 dctx) := of_commandWord rfl rfl (by decide) (by decide)
theorem cvtU8I16 (dctx : Nat) : Statement (.cvtU8I16 dctx) := of_commandWord rfl rfl (by decide) (by decide)
theorem cvtU8I8 (dctx : Nat) : Statement (.cvtU8I8 dctx) := of_commandWord rfl rfl (by decide) (by decide)
theorem copyU8 (dctx : Nat) : Statement (.copyU8 dctx) := of_commandWord rfl rfl (by decide) (by decide)
theorem zeroF32 : Statement (.zeroF32) := of_commandWord rfl rfl (by decide) (by decide)
theorem zeroI32 : Statement (.zeroI32) := of_commandWord rfl rfl (by decide) (by decide)
theorem zeroI24 : Statement (.zeroI24) := of_commandWord rfl rfl (by decide) (by decide)
theorem zeroI16 : Statement (.zeroI16) := of_commandWord rfl rfl (by decide) (by decide)
theorem zeroI8 : Statement (.zeroI8) := of_commandWord rfl rfl (by decide) (by decide)
theorem zeroU8 : Statement (.zeroU8) := of_commandWord rfl rfl (by decide) (by decide)
theorem resolve (clipOff ditherOff : Bool) : Statement (.resolve clipOff ditherOff) := of_commandWord rfl rfl (by decide) (by decide)
theorem selfmt : Statement (.selfmt) := of_commandWord rfl rfl (by decide) (by decide)
theorem dinit (dctx : Nat) : Statement (.dinit dctx) := of_commandWord rfl rfl (by decide) (by decide)
theorem dither16 (dctx : Nat) : Statement (.dither16 dctx) := of_commandWord rfl rfl (by decide) (by decide)
theorem ditherf (dctx : Nat) : Statement (.ditherf dctx) := of_commandWord rfl rfl (by decide) (by decide)
theorem vdither16 (dctx : Nat) : Statement (.vdither16 dctx) := of_commandWord rfl rfl (by decide) (by decide)
theorem vditherf (dctx : Nat) : Statement (.vditherf dctx) := of_commandWord rfl rfl (by decide) (by decide)
theorem setctrl (accel : Bool) : Statement (.setctrl accel) := of_commandWord rfl rfl (by decide) (by decide)

end Sys2Proof.Laws.EncodedWord
end

