-- ==== Sys2Proof/Laws/Memory.lean ====
section
/-! SUPPORT. What the byte and element operations do: a byte reads back after a write, every other byte is left alone, every
operation keeps the canonical form, and an element reads back after a store. -/

namespace Sys2Proof.Laws

open Sys2Proof.Machine

/-! ## Bytes -/

theorem readByte_unlisted {m : List Host.Cell} {a : Nat} (h : ∀ c ∈ m, c.1 ≠ a) : readByte m a = Config.memFill := by
  induction m with
  | nil => rfl
  | cons c m ih =>
    obtain ⟨k, b⟩ := c
    have hk : a ≠ k := fun e => h (k, b) (by simp) e.symm
    simp only [readByte, if_neg hk]
    exact ih fun d hd => h d (by simp [hd])

theorem readByte_above {m : List Host.Cell} {k a : Nat} (h : ∀ c ∈ m, k < c.1) (ha : a ≤ k) :
    readByte m a = Config.memFill :=
  readByte_unlisted fun c hc e => by have := h c hc; omega

theorem readByte_writeByte_other {m : List Host.Cell} {a x : Nat} {b : Byte} (h : x ≠ a) :
    readByte (writeByte m a b) x = readByte m x := by
  induction m with
  | nil => simp only [writeByte]; split <;> simp [readByte, h]
  | cons c m ih =>
    obtain ⟨k, d⟩ := c
    simp only [writeByte]
    split
    · split <;> simp [readByte, h]
    · split
      · subst a; split <;> simp [readByte, h]
      · simp [readByte, ih]

theorem wf_tail {c : Host.Cell} {m : List Host.Cell} (h : Memory.wf (c :: m)) : Memory.wf m :=
  ⟨h.1.of_cons, fun d hd => h.2 d (by simp [hd])⟩

theorem wf_head_lt {c : Host.Cell} {m : List Host.Cell} (h : Memory.wf (c :: m)) : ∀ d ∈ m, c.1 < d.1 :=
  (List.pairwise_cons.mp h.1).1

theorem readByte_writeByte_same {m : List Host.Cell} (hm : Memory.wf m) (a : Nat) (b : Byte) :
    readByte (writeByte m a b) a = b := by
  induction m with
  | nil => simp only [writeByte]; split <;> simp_all [readByte]
  | cons c m ih =>
    obtain ⟨k, d⟩ := c
    simp only [writeByte]
    split
    · rename_i hlt
      split
      · rename_i hb
        rw [hb]
        exact readByte_unlisted fun e he => by
          rcases List.mem_cons.mp he with rfl | he
          · simp; omega
          · have := wf_head_lt hm e he
            simp at this; omega
      · simp [readByte]
    · split
      · rename_i hk
        split
        · rename_i hb
          rw [hb, hk]
          exact readByte_above (wf_head_lt hm) (Nat.le_refl _)
        · simp [readByte]
      · rename_i hk
        simp only [readByte, if_neg hk]
        exact ih (wf_tail hm)

theorem mem_writeByte {m : List Host.Cell} {a : Nat} {b : Byte} {c : Host.Cell} (h : c ∈ writeByte m a b) :
    c ∈ m ∨ (c = (a, b) ∧ b ≠ Config.memFill) := by
  induction m with
  | nil => simp only [writeByte] at h; split at h <;> simp_all
  | cons d m ih =>
    obtain ⟨k, e⟩ := d
    simp only [writeByte] at h
    split at h
    · split at h
      · exact .inl h
      · rcases List.mem_cons.mp h with rfl | h
        · exact .inr ⟨rfl, by assumption⟩
        · exact .inl h
    · split at h
      · split at h
        · exact .inl (by simp [h])
        · rcases List.mem_cons.mp h with rfl | h
          · exact .inr ⟨rfl, by assumption⟩
          · exact .inl (by simp [h])
      · rcases List.mem_cons.mp h with rfl | h
        · exact .inl (by simp)
        · exact (ih h).imp (by simp +contextual) id

theorem writeByte_wf {m : List Host.Cell} (hm : Memory.wf m) (a : Nat) (b : Byte) : Memory.wf (writeByte m a b) := by
  refine ⟨?_, fun c hc => ?_⟩
  · induction m with
    | nil => simp only [writeByte]; split <;> simp
    | cons d m ih =>
      obtain ⟨k, e⟩ := d
      have hlt := wf_head_lt hm
      simp only [writeByte]
      split
      · split
        · exact hm.1
        · refine List.pairwise_cons.mpr ⟨fun x hx => ?_, hm.1⟩
          rcases List.mem_cons.mp hx with rfl | hx
          · simpa
          · have := hlt x hx
            simp at this ⊢; omega
      · split
        · rename_i hk
          split
          · exact hm.1.of_cons
          · exact List.pairwise_cons.mpr ⟨fun x hx => by simpa [hk] using hlt x hx, hm.1.of_cons⟩
        · refine List.pairwise_cons.mpr ⟨fun x hx => ?_, ih (wf_tail hm)⟩
          rcases mem_writeByte hx with hx | ⟨rfl, -⟩
          · exact hlt x hx
          · simp; omega
  · rcases mem_writeByte hc with hc | ⟨rfl, hb⟩
    · exact hm.2 c hc
    · exact hb

/-! ## Runs of bytes -/

theorem writeBytes_wf {m : List Host.Cell} (hm : Memory.wf m) (a : Nat) (bs : List Byte) :
    Memory.wf (writeBytes m a bs) := by
  induction bs generalizing m a with
  | nil => exact hm
  | cons b bs ih => exact ih (writeByte_wf hm a b) (a + 1)

theorem mem_writeBytes {m : List Host.Cell} {a : Nat} {bs : List Byte} {c : Host.Cell} (h : c ∈ writeBytes m a bs) :
    c ∈ m ∨ (a ≤ c.1 ∧ c.1 < a + bs.length) := by
  induction bs generalizing m a with
  | nil => exact .inl h
  | cons b bs ih =>
    simp only [List.length_cons]
    rcases ih h with h | h
    · rcases mem_writeByte h with h | ⟨rfl, -⟩
      · exact .inl h
      · right; simp
    · right; omega

theorem readByte_writeBytes_outside {m : List Host.Cell} {a x : Nat} {bs : List Byte}
    (h : x < a ∨ a + bs.length ≤ x) : readByte (writeBytes m a bs) x = readByte m x := by
  induction bs generalizing m a with
  | nil => rfl
  | cons b bs ih =>
    simp only [List.length_cons] at h
    rw [writeBytes, ih (by omega), readByte_writeByte_other (by omega)]

@[simp] theorem readBytes_length (m : List Host.Cell) (a n : Nat) : (readBytes m a n).length = n := by
  induction n generalizing a with
  | zero => rfl
  | succ n ih => simp [readBytes, ih]

theorem readBytes_getElem (m : List Host.Cell) (a n j : Nat) (h : j < (readBytes m a n).length) :
    (readBytes m a n)[j] = readByte m (a + j) := by
  induction n generalizing a j with
  | zero => simp at h
  | succ n ih =>
    cases j with
    | zero => rfl
    | succ j => simpa [readBytes, Nat.add_right_comm, Nat.add_assoc] using ih (a + 1) j (by simpa [readBytes] using h)

theorem readBytes_congr {m m' : List Host.Cell} {a n : Nat}
    (h : ∀ x, a ≤ x → x < a + n → readByte m x = readByte m' x) : readBytes m a n = readBytes m' a n := by
  induction n generalizing a with
  | zero => rfl
  | succ n ih =>
    rw [readBytes, readBytes, h a (Nat.le_refl _) (by omega), ih fun x h1 h2 => h x (by omega) (by omega)]

theorem readBytes_writeBytes_same {m : List Host.Cell} (hm : Memory.wf m) (a : Nat) (bs : List Byte) :
    readBytes (writeBytes m a bs) a bs.length = bs := by
  induction bs generalizing m a with
  | nil => rfl
  | cons b bs ih =>
    rw [List.length_cons, readBytes, writeBytes, ih (writeByte_wf hm a b),
      readByte_writeBytes_outside (by omega), readByte_writeByte_same hm]

/-! ## Elements -/

@[simp] theorem inByteOrder_length (be : Bool) (bs : List Byte) : (inByteOrder be bs).length = bs.length := by
  cases be <;> simp [inByteOrder]

@[simp] theorem inByteOrder_twice (be : Bool) (bs : List Byte) : inByteOrder be (inByteOrder be bs) = bs := by
  cases be <;> simp [inByteOrder]

@[simp] theorem bytesOfPattern_length (p : Word) (n : Nat) : (bytesOfPattern p n).length = n := by
  induction n generalizing p with
  | zero => rfl
  | succ n ih => simp [bytesOfPattern, ih]

theorem patternOfBytes_bytesOfPattern (p : Word) (f : Format) :
    patternOfBytes (bytesOfPattern p (elemSize f)) = keepBits (sampleBits f) p := by
  ext i hi
  cases f <;>
    simp only [sampleBits, elemSize, bytesOfPattern, patternOfBytes, keepBits, BitVec.getElem_or,
      BitVec.getElem_setWidth, BitVec.getElem_shiftLeft, BitVec.getLsbD_setWidth, BitVec.getLsbD_ushiftRight,
      Nat.reduceMul] <;>
    (interval_cases i <;> simp)

theorem storeElem_wf {be : Bool} {m : List Host.Cell} (hm : Memory.wf m) (f : Format) (a : Nat) (p : Word) :
    Memory.wf (storeElem be m f a p) := writeBytes_wf hm _ _

theorem readByte_storeElem_outside {be : Bool} {m : List Host.Cell} {f : Format} {a x : Nat} {p : Word}
    (h : x < a ∨ a + elemSize f ≤ x) : readByte (storeElem be m f a p) x = readByte m x :=
  readByte_writeBytes_outside (by simpa using h)

/-- The bytes of an element after a store, the lowest address first (R55). -/
theorem readBytes_storeElem {be : Bool} {m : List Host.Cell} (hm : Memory.wf m) (f : Format) (a : Nat) (p : Word) :
    readBytes (storeElem be m f a p) a (elemSize f) = inByteOrder be (bytesOfPattern p (elemSize f)) := by
  simpa [storeElem] using readBytes_writeBytes_same hm a (inByteOrder be (bytesOfPattern p (elemSize f)))

theorem mem_storeElem {be : Bool} {m : List Host.Cell} {f : Format} {a : Nat} {p : Word} {c : Host.Cell}
    (h : c ∈ storeElem be m f a p) : c ∈ m ∨ (a ≤ c.1 ∧ c.1 < a + elemSize f) := by
  simpa using mem_writeBytes h

/-- An element reads back after a store: the low bits of the pattern that the format keeps (R54, R55). -/
theorem loadElem_storeElem_same {be : Bool} {m : List Host.Cell} (hm : Memory.wf m) (f : Format) (a : Nat) (p : Word) :
    loadElem be (storeElem be m f a p) f a = keepBits (sampleBits f) p := by
  rw [loadElem, readBytes_storeElem hm, inByteOrder_twice, patternOfBytes_bytesOfPattern]

theorem patternOfBytes_lt (bs : List Byte) : (patternOfBytes bs).toNat < 2 ^ (8 * bs.length) := by
  induction bs with
  | nil => simp [patternOfBytes]
  | cons b bs ih =>
    have h1 : (b.setWidth 32 : Word).toNat < 2 ^ (8 * (b :: bs).length) := by
      have h2 := b.isLt
      rw [BitVec.toNat_setWidth, Nat.mod_eq_of_lt (by omega)]
      exact Nat.lt_of_lt_of_le b.isLt (Nat.pow_le_pow_right (by omega) (by simp only [List.length_cons]; omega))
    have h3 : (patternOfBytes bs <<< 8).toNat < 2 ^ (8 * (b :: bs).length) := by
      rw [BitVec.toNat_shiftLeft, Nat.shiftLeft_eq, List.length_cons, Nat.mul_add 8, Nat.pow_add]
      exact Nat.lt_of_le_of_lt (Nat.mod_le _ _) ((Nat.mul_lt_mul_right (by omega)).mpr ih)
    rw [patternOfBytes, BitVec.toNat_or]
    exact Nat.or_lt_two_pow h1 h3

theorem keepBits_of_lt {bits : Nat} {p : Word} (h : p.toNat < 2 ^ bits) : keepBits bits p = p := by
  apply BitVec.eq_of_toNat_eq
  simp only [keepBits, BitVec.toNat_setWidth, Nat.mod_eq_of_lt h, Nat.mod_eq_of_lt p.isLt]

/-- An element read from memory is zero above its sample's bits (R54). -/
theorem loadElem_lt (be : Bool) (m : List Host.Cell) (f : Format) (a : Nat) :
    (loadElem be m f a).toNat < 2 ^ sampleBits f := by
  simpa [loadElem, sampleBits] using patternOfBytes_lt (inByteOrder be (readBytes m a (elemSize f)))

theorem loadElem_congr {be : Bool} {m m' : List Host.Cell} {f : Format} {a : Nat}
    (h : ∀ x, a ≤ x → x < a + elemSize f → readByte m x = readByte m' x) : loadElem be m f a = loadElem be m' f a := by
  rw [loadElem, loadElem, readBytes_congr h]

/-- An element whose bytes a store does not touch reads as before. -/
theorem loadElem_storeElem_other {be : Bool} {m : List Host.Cell} {f g : Format} {a b : Nat} {p : Word}
    (h : b + elemSize g ≤ a ∨ a + elemSize f ≤ b) : loadElem be (storeElem be m f a p) g b = loadElem be m g b :=
  loadElem_congr fun x h1 h2 => readByte_storeElem_outside (by omega)

end Sys2Proof.Laws
end

