-- ==== Sys2Proof/Laws/Run.lean ====
section
/-! SUPPORT. Everything RUN and ZERO can do, said once: what one sample does, what the loops do, and what `runConverter` and
`runZero` answer. Claims about a converter cite `runConverter_ready` and unfold no loop. -/

namespace Sys2Proof.Laws

open Sys2Proof.Machine

/-! ## Address registers -/

theorem spaceSize_le (p : Config.Params) : spaceSize p ≤ 2 ^ 64 := by
  cases h : p.addrBits <;> simp [spaceSize, h, Config.AddrBits.toNat]

theorem spaceSize_pos (p : Config.Params) : 0 < spaceSize p := by simp [spaceSize]

theorem truncAddr_toNat (p : Config.Params) (x : Nat) : (truncAddr p x).toNat = x % spaceSize p := by
  have h1 := Nat.mod_lt x (spaceSize_pos p)
  have h2 := spaceSize_le p
  simp only [truncAddr, BitVec.toNat_ofNat]
  exact Nat.mod_eq_of_lt (by omega)

theorem truncAddr_fits (p : Config.Params) (x : Nat) : FitsAddr p (truncAddr p x) := by
  rw [FitsAddr, truncAddr_toNat]
  exact Nat.mod_lt _ (spaceSize_pos p)

theorem truncAddr_of_lt {p : Config.Params} {x : Nat} (h : x < spaceSize p) : (truncAddr p x).toNat = x := by
  rw [truncAddr_toNat, Nat.mod_eq_of_lt h]

/-! ## Views -/

theorem elemSize_pos (f : Format) : 0 < elemSize f := by cases f <;> simp [elemSize]

theorem elemAddr_zero (base stride size : Nat) : elemAddr base stride size 0 = base := by simp [elemAddr]

theorem elemAddr_succ (base stride size i : Nat) :
    elemAddr base stride size (i + 1) = elemAddr base stride size i + stride * size := by
  simp only [elemAddr, Nat.add_mul, Nat.one_mul]; omega

theorem inView_elem {f : Format} {base stride count i j : Nat} (hi : i < count) (hj : j < elemSize f) :
    InView f base stride count (elemAddr base stride (elemSize f) i + j) := ⟨i, hi, j, hj, rfl⟩

theorem inView_of_range {f : Format} {base stride count i a : Nat} (hi : i < count)
    (h1 : elemAddr base stride (elemSize f) i ≤ a) (h2 : a < elemAddr base stride (elemSize f) i + elemSize f) :
    InView f base stride count a :=
  ⟨i, hi, a - elemAddr base stride (elemSize f) i, by omega, by omega⟩

theorem inView_mono {f : Format} {base stride m n a : Nat} (h : m ≤ n) (hv : InView f base stride m a) :
    InView f base stride n a := by
  obtain ⟨i, hi, j, hj, rfl⟩ := hv
  exact inView_elem (by omega) hj

/-- With a stride of at least 1, a later element starts where an earlier one has ended. -/
theorem elemAddr_apart {base stride size i j : Nat} (hs : 0 < stride) (h : i < j) :
    elemAddr base stride size i + size ≤ elemAddr base stride size j := by
  obtain ⟨d, rfl⟩ := Nat.exists_eq_add_of_lt h
  have h1 : i + d + 1 = i + (d + 1) := by omega
  have h2 : size ≤ (d + 1) * stride * size := Nat.le_mul_of_pos_left _ (by positivity)
  simp only [elemAddr, h1, Nat.add_mul] at *
  omega

/-! ## One sample -/

/-- What a stored element may be, given the kernel's reference result (R156, R282). -/
def SampleOk (c : Converter) (accelerated : Bool) (ref : Option Word) (o : Word) : Prop :=
  match ref with
  | none => True
  | some q =>
    if accelerated && c.tol != 0 then
      ∃ w, o = keepBits (sampleBits c.dst) (patternOf c.dst
        (bandValue (bandLow c.dst c.tol (logicalValue c.dst q)) (bandHigh c.dst c.tol (logicalValue c.dst q)) w))
    else o = keepBits (sampleBits c.dst) q

/-- The states a RUN passes through: `i` of the `count` samples of the RUN that started in s are done in t. -/
structure RunAt (c : Converter) (k : Nat) (s t : State) (i : Nat) : Prop where
  registers : SameRegisters s t
  results   : SameResults s t
  status    : t.status = s.status
  contexts  : t.ds = if c.dither then s.ds.set k (ctxAfter (contextAt s k) i) else s.ds
  wf        : Memory.wf t.mem
  inSpace   : ∀ x ∈ t.mem, x ∈ s.mem ∨ InView c.dst s.a0.toNat s.a1.toNat i x.1
  memory    : ∀ a, ¬ InView c.dst s.a0.toNat s.a1.toNat i a → readByte t.mem a = readByte s.mem a
  elements  : ∀ j < i, SampleOk c (accelOn s && inVectorPrefix s.a4.toNat j)
    (c.kernel (elemAt s c.src (srcAddr s c.src j)) (if c.dither then ditherValue (contextAt s k) j else 0))
    (elemAt t c.dst (dstAddr s c.dst j))
  workFits  : FitsAddr s.params t.work.sp ∧ FitsAddr s.params t.work.dp ∧ FitsAddr s.params t.work.n
  addresses : i < s.a4.toNat → t.work.sp.toNat = srcAddr s c.src i ∧ t.work.dp.toNat = dstAddr s c.dst i

/-- The result of a sample is one `SampleOk` admits, and taking it changes at most the draw counter. -/
theorem sampleResult_spec (c : Converter) (accelerated : Bool) (ref : Option Word) (s : State) :
    SampleOk c accelerated ref (keepBits (sampleBits c.dst) (sampleResult c accelerated ref s).1) ∧
      ∃ n, (sampleResult c accelerated ref s).2 = s.setDraws n := by
  rcases ref with _ | q
  · exact ⟨trivial, _, rfl⟩
  · by_cases h : (accelerated && c.tol != 0) = true
    · simp only [sampleResult, SampleOk, h, if_true]
      exact ⟨⟨_, rfl⟩, _, rfl⟩
    · simp only [sampleResult, SampleOk, h]
      exact ⟨rfl, s.draws, rfl⟩

theorem sampleDither_spec (c : Converter) (k : Nat) (s : State) :
    sampleDither c k s =
      if c.dither then ((ditherStep (contextAt s k)).1, s.setDs (s.ds.set k (ditherStep (contextAt s k)).2))
      else (0, s) := rfl

/-- Storing element `i` and advancing takes a RUN from `i` samples done to `i + 1`: `u` is the state after the sample's dither
step and its result, `q` the result. -/
theorem storeAdvance_spec {c : Converter} {k i : Nat} {s t u : State} {q : Word} (h : RunAt c k s t i)
    (hready : RunReady s c.src c.dst) (hi : i < s.a4.toNat) (hreg : SameRegisters s u) (hres : SameResults s u)
    (hst : u.status = s.status)
    (hds : u.ds = if c.dither then s.ds.set k (ctxAfter (contextAt s k) (i + 1)) else s.ds)
    (hum : u.mem = t.mem) (huw : u.work = t.work)
    (hok : SampleOk c (accelOn s && inVectorPrefix s.a4.toNat i)
      (c.kernel (elemAt s c.src (srcAddr s c.src i)) (if c.dither then ditherValue (contextAt s k) i else 0))
      (keepBits (sampleBits c.dst) q)) :
    RunAt c k s (advanceRun c (storeSample c.dst (dstAddr s c.dst i) q u)) (i + 1) := by
  obtain ⟨hdst, hsrc, -⟩ := hready.buffers.resolve_left (by omega)
  obtain ⟨hsp, hdp⟩ := h.addresses hi
  have hmem : (advanceRun c (storeSample c.dst (dstAddr s c.dst i) q u)).mem =
      storeElem s.params.bigEndian t.mem c.dst (dstAddr s c.dst i) q := by
    simp [advanceRun, storeSample, hum, hreg.params]
  have hwork : (advanceRun c (storeSample c.dst (dstAddr s c.dst i) q u)).work =
      { sp := truncAddr s.params (srcAddr s c.src i + s.a3.toNat * elemSize c.src)
        dp := truncAddr s.params (dstAddr s c.dst i + s.a1.toNat * elemSize c.dst)
        n := truncAddr s.params (t.work.n.toNat - 1) } := by
    simp [advanceRun, storeSample, huw, hreg.params, hreg.a1, hreg.a3, hsp, hdp]
  have hpar : (advanceRun c (storeSample c.dst (dstAddr s c.dst i) q u)).params = s.params := hreg.params
  refine ⟨⟨hreg.1, hreg.2, hreg.3, hreg.4, hreg.5, hreg.6, hreg.7, hreg.8, hreg.9, hreg.10⟩,
    ⟨hres.1, hres.2, hres.3, hres.4⟩, hst, hds, ?_, ?_, ?_, ?_, ?_, ?_⟩
  · rw [hmem]
    exact storeElem_wf h.wf _ _ _
  · rw [hmem]
    intro x hx
    rcases mem_storeElem hx with hx | ⟨hx1, hx2⟩
    · exact (h.inSpace x hx).imp id (inView_mono (by omega))
    · exact .inr (inView_of_range (Nat.lt_succ_self i) hx1 hx2)
  · rw [hmem]
    intro a ha
    refine (readByte_storeElem_outside ?_).trans (h.memory a fun hv => ha (inView_mono (by omega) hv))
    by_contra hcon
    rw [dstAddr] at hcon
    exact ha (inView_of_range (Nat.lt_succ_self i) (by omega) (by omega))
  · intro j hj
    have hat : elemAt (advanceRun c (storeSample c.dst (dstAddr s c.dst i) q u)) c.dst (dstAddr s c.dst j) =
        loadElem s.params.bigEndian (storeElem s.params.bigEndian t.mem c.dst (dstAddr s c.dst i) q) c.dst
          (dstAddr s c.dst j) := by
      rw [elemAt, hmem, hpar]
    rw [hat]
    rcases Nat.lt_succ_iff_lt_or_eq.mp hj with hj | rfl
    · have hpos : 0 < s.a1.toNat := by
        rcases Nat.eq_zero_or_pos s.a1.toNat with h0 | h0
        · exact absurd (BitVec.eq_of_toNat_eq h0) hready.dstStride
        · exact h0
      have hap : dstAddr s c.dst j + elemSize c.dst ≤ dstAddr s c.dst i :=
        elemAddr_apart (base := s.a0.toNat) (size := elemSize c.dst) hpos hj
      have hsame : elemAt t c.dst (dstAddr s c.dst j) =
          loadElem s.params.bigEndian t.mem c.dst (dstAddr s c.dst j) := by rw [elemAt, h.registers.params]
      rw [loadElem_storeElem_other (.inl hap), ← hsame]
      exact h.elements j hj
    · rw [loadElem_storeElem_same h.wf]
      exact hok
  · rw [hwork]
    exact ⟨truncAddr_fits _ _, truncAddr_fits _ _, truncAddr_fits _ _⟩
  · intro hn
    have hn1 := hsrc.inSpace _ (inView_elem hn (elemSize_pos c.src))
    have hn2 := hdst.inSpace _ (inView_elem hn (elemSize_pos c.dst))
    rw [Nat.add_zero, elemAddr_succ] at hn1 hn2
    rw [hwork]
    constructor
    · rw [srcAddr, srcAddr, elemAddr_succ]
      exact truncAddr_of_lt hn1
    · rw [dstAddr, dstAddr, elemAddr_succ]
      exact truncAddr_of_lt hn2

/-- The dither step of sample `i`: the value the context yields after `i` steps, and the context one step further (R154). -/
theorem sampleDither_at {c : Converter} {k i : Nat} {s t : State} (h : RunAt c k s t i)
    (hk : c.dither = true → k < contexts s) :
    (sampleDither c k t).1 = (if c.dither then ditherValue (contextAt s k) i else 0) ∧
      (sampleDither c k t).2 =
        t.setDs (if c.dither then s.ds.set k (ctxAfter (contextAt s k) (i + 1)) else s.ds) := by
  have hds := h.contexts
  rw [sampleDither_spec]
  by_cases hdi : c.dither = true
  · simp only [hdi, if_true] at hds ⊢
    have hctx : contextAt t k = ctxAfter (contextAt s k) i := by
      rw [contextAt, hds, getD_set_self (hk hdi)]
    rw [hctx, hds, List.set_set]
    exact ⟨rfl, rfl⟩
  · simp only [hdi, if_false, Bool.false_eq_true, true_and] at hds ⊢
    rw [← hds]
    rfl

/-- One sample takes a RUN from `i` samples done to `i + 1` (R150). -/
theorem convertSample_spec {c : Converter} {k i : Nat} {s t : State} (h : RunAt c k s t i)
    (hk : c.dither = true → k < contexts s) (hready : RunReady s c.src c.dst) (hi : i < s.a4.toNat) :
    RunAt c k s (convertSample c k (accelOn t && inVectorPrefix s.a4.toNat i) t) (i + 1) := by
  obtain ⟨hsp, hdp⟩ := h.addresses hi
  have hdis := (hready.buffers.resolve_left (by omega)).disjoint
  have hacc : accelOn t = accelOn s := by simp [accelOn, h.registers.ctrl]
  have hload : loadElem t.params.bigEndian t.mem c.src t.work.sp.toNat = elemAt s c.src (srcAddr s c.src i) := by
    rw [hsp, h.registers.params, elemAt]
    refine loadElem_congr fun x hx1 hx2 => h.memory x fun hv => ?_
    exact hdis x (inView_mono (by omega) hv) (inView_of_range hi hx1 hx2)
  obtain ⟨hd1, hd2⟩ := sampleDither_at h hk
  simp only [convertSample]
  rw [hload, hd1, hd2, hacc]
  obtain ⟨hok, n, hn⟩ := sampleResult_spec c (accelOn s && inVectorPrefix s.a4.toNat i)
    (c.kernel (elemAt s c.src (srcAddr s c.src i)) (if c.dither then ditherValue (contextAt s k) i else 0))
    (t.setDs (if c.dither then s.ds.set k (ctxAfter (contextAt s k) (i + 1)) else s.ds))
  rw [hn]
  simp only [setDraws_work, setDs_work, hdp]
  obtain ⟨r1, r2, r3, r4, r5, r6, r7, r8, r9, r10⟩ := h.registers
  obtain ⟨q1, q2, q3, q4⟩ := h.results
  exact storeAdvance_spec h hready hi ⟨r1, r2, r3, r4, r5, r6, r7, r8, r9, r10⟩ ⟨q1, q2, q3, q4⟩ h.status rfl rfl rfl hok

/-! ## The loop of RUN -/

theorem runLoop_spec {c : Converter} {k : Nat} {s : State} (hk : c.dither = true → k < contexts s)
    (hready : RunReady s c.src c.dst) (n : Nat) (hn : n ≤ s.a4.toNat) {t : State}
    (h : RunAt c k s t (s.a4.toNat - n)) : RunAt c k s (runLoop c k s.a4.toNat n t) s.a4.toNat := by
  induction n generalizing t with
  | zero => exact h
  | succ n ih =>
    have := convertSample_spec h hk hready (by omega)
    rw [show s.a4.toNat - (n + 1) + 1 = s.a4.toNat - n by omega] at this
    exact ih (by omega) this

theorem startRun_at {c : Converter} {s : State} (k : Nat) (hwf : Memory.wf s.mem) (h0 : FitsAddr s.params s.a0)
    (h2 : FitsAddr s.params s.a2) (h4 : FitsAddr s.params s.a4) : RunAt c k s (startRun s) 0 where
  registers := ⟨rfl, rfl, rfl, rfl, rfl, rfl, rfl, rfl, rfl, rfl⟩
  results := ⟨rfl, rfl, rfl, rfl⟩
  status := rfl
  contexts := by cases c.dither <;> simp [ds_set_contextAt, startRun]
  wf := hwf
  inSpace := fun _ hx => .inl hx
  memory := fun _ _ => rfl
  elements := fun j hj => absurd hj (Nat.not_lt_zero j)
  workFits := ⟨h2, h0, h4⟩
  addresses := fun _ => by simp [startRun, srcAddr, dstAddr, elemAddr_zero]

/-! ## The contract as the block's own test -/

theorem allBelow_iff (n : Nat) (p : Nat → Bool) : allBelow n p = true ↔ ∀ i < n, p i = true := by
  induction n with
  | zero => simp [allBelow]
  | succ n ih =>
    simp only [allBelow, Bool.and_eq_true, ih]
    exact ⟨fun h i hi => by rcases Nat.lt_succ_iff_lt_or_eq.mp hi with hi | rfl; exacts [h.2 i hi, h.1],
      fun h => ⟨h n (Nat.lt_succ_self n), fun i hi => h i (by omega)⟩⟩

theorem byteAllocated_iff (s : State) (a : Nat) : byteAllocated s a = true ↔ Allocated s a := by
  simp [byteAllocated, Allocated]

theorem viewAllocated_iff (s : State) (f : Format) (base stride count : Nat) :
    viewAllocated s f base stride count = true ↔ ∀ a, InView f base stride count a → Allocated s a := by
  simp only [viewAllocated, allBelow_iff, byteAllocated_iff]
  exact ⟨fun h a ⟨i, hi, j, hj, e⟩ => e ▸ h i hi j hj, fun h i hi j hj => h _ (inView_elem hi hj)⟩

theorem elemAddr_mono {base stride size i j : Nat} (h : i ≤ j) :
    elemAddr base stride size i ≤ elemAddr base stride size j := by
  have : i * stride * size ≤ j * stride * size := Nat.mul_le_mul_right _ (Nat.mul_le_mul_right _ h)
  simp only [elemAddr]; omega

theorem viewInSpace_iff {s : State} {f : Format} {base stride count : Nat} (hc : 0 < count) :
    viewInSpace s f base stride count = true ↔ ∀ a, InView f base stride count a → a < spaceSize s.params := by
  have hpos := elemSize_pos f
  simp only [viewInSpace, decide_eq_true_eq]
  constructor
  · rintro h a ⟨i, hi, j, hj, rfl⟩
    have := elemAddr_mono (base := base) (stride := stride) (size := elemSize f) (show i ≤ count - 1 by omega)
    omega
  · intro h
    have := h _ (inView_elem (j := elemSize f - 1) (show count - 1 < count by omega) (by omega))
    omega

theorem rangesDisjoint_iff (a m b n : Nat) : rangesDisjoint a m b n = true ↔ a + m ≤ b ∨ b + n ≤ a := by
  simp [rangesDisjoint]

theorem elemAddr_base (base stride size i : Nat) : elemAddr base stride size i = base + elemAddr 0 stride size i := by
  simp [elemAddr]

theorem viewsDisjoint_iff {f g : Format} {base stride base' stride' count : Nat} :
    viewsDisjoint f g base stride base' stride' count = true ↔
      ∀ a, InView f base stride count a → ¬ InView g base' stride' count a := by
  simp only [viewsDisjoint, Bool.or_eq_true, allBelow_iff, rangesDisjoint_iff]
  constructor
  · rintro h a ⟨i, hi, j, hj, rfl⟩ ⟨i', hi', j', hj', he⟩
    rcases h with h | h
    · have h1 := elemAddr_mono (base := 0) (stride := stride) (size := elemSize f) (show i ≤ count - 1 by omega)
      have h2 := elemAddr_mono (base := 0) (stride := stride') (size := elemSize g) (show i' ≤ count - 1 by omega)
      rw [elemAddr_base, elemAddr_base base'] at he
      omega
    · have := h i hi i' hi'
      omega
  · intro h
    right
    intro i hi j hj
    by_contra hcon
    have hf := elemSize_pos f
    have hg := elemSize_pos g
    refine h (max (elemAddr base stride (elemSize f) i) (elemAddr base' stride' (elemSize g) j))
      (inView_of_range hi (by omega) (by omega)) (inView_of_range hj (by omega) (by omega))

/-- The buffer test of RUN finds nothing exactly when there is no sample or the host's duties are met (R59, R60, R157). -/
theorem runBreach_none_iff (s : State) (src dst : Format) :
    runBreach src dst s = none ↔ s.a4.toNat = 0 ∨ RunContract s src dst := by
  by_cases h0 : s.a4.toNat = 0
  · simp [runBreach, h0]
  have hpos : 0 < s.a4.toNat := by omega
  simp only [runBreach, h0, if_false, false_or]
  constructor
  · intro h
    split at h
    · cases h
    split at h
    · cases h
    split at h
    · cases h
    split at h
    · cases h
    rename_i ha hw hal hd
    simp only [Bool.not_eq_true', Bool.not_eq_false, Bool.and_eq_true, viewInSpace_iff hpos, viewAllocated_iff,
      viewsDisjoint_iff] at hw hal hd
    exact ⟨⟨by omega, hw.1, hal.1⟩, ⟨by omega, hw.2, hal.2⟩, hd⟩
  · rintro ⟨⟨ha, hw, hal⟩, ⟨ha', hw', hal'⟩, hd⟩
    rw [← viewInSpace_iff hpos] at hw hw'
    rw [← viewAllocated_iff] at hal hal'
    have hd' := viewsDisjoint_iff.mpr hd
    simp [ha, ha', hw, hw', hal, hal', hd']

theorem zeroBreach_none_iff (s : State) (f : Format) :
    zeroBreach f s = none ↔ s.a2.toNat = 0 ∨ GoodView s f s.a0.toNat s.a1.toNat s.a2.toNat := by
  by_cases h0 : s.a2.toNat = 0
  · simp [zeroBreach, h0]
  have hpos : 0 < s.a2.toNat := by omega
  simp only [zeroBreach, h0, if_false, false_or]
  constructor
  · intro h
    split at h
    · cases h
    split at h
    · cases h
    split at h
    · cases h
    rename_i ha hw hal
    simp only [Bool.not_eq_true', Bool.not_eq_false, viewInSpace_iff hpos, viewAllocated_iff] at hw hal
    exact ⟨by omega, hw, hal⟩
  · rintro ⟨ha, hw, hal⟩
    rw [← viewInSpace_iff hpos] at hw
    rw [← viewAllocated_iff] at hal
    simp [ha, hw, hal]

/-! ## What RUN answers -/

/-- Everything a RUN can answer (R150): a code, a refusal of its buffers, or the state its loop ends in. -/
theorem runConverter_cases (c : Converter) (k : Nat) (s : State) :
    (c.dither = true ∧ (c.src, c.dst) ∈ Config.unimpl ∧ runConverter c k s = .next (raise .notImplemented s)) ∨
    (((c.dither = true ∧ contexts s ≤ k) ∨ s.a1 = 0 ∨ s.a3 = 0) ∧ runConverter c k s = .next (raise .badOperand s)) ∨
    (∃ r, runBreach c.src c.dst s = some r ∧ runConverter c k s = .refused r) ∨
    ((c.dither = true → k < contexts s) ∧ RunReady s c.src c.dst ∧
      runConverter c k s = .next (finish (runLoop c k s.a4.toNat s.a4.toNat (startRun s)))) := by
  simp only [runConverter]
  split
  · exact .inl ⟨by tauto, by tauto, rfl⟩
  · split
    · exact .inr (.inl ⟨by tauto, rfl⟩)
    · rename_i hnc
      split
      · exact .inr (.inl ⟨by tauto, rfl⟩)
      · rename_i hns
        cases hb : runBreach c.src c.dst s with
        | some r => exact .inr (.inr (.inl ⟨r, rfl, rfl⟩))
        | none =>
          refine .inr (.inr (.inr ⟨fun hd => ?_, ⟨by tauto, by tauto, (runBreach_none_iff ..).mp hb⟩, rfl⟩))
          by_contra h
          exact hnc ⟨hd, by omega⟩

/-- A RUN whose operands are good ends with STATUS = OK in a state of which `RunAt` says everything (R150 to R154). -/
theorem runConverter_ready {c : Converter} {k : Nat} {s : State} (himpl : ¬ (c.dither = true ∧ (c.src, c.dst) ∈ Config.unimpl))
    (hk : c.dither = true → k < contexts s) (hready : RunReady s c.src c.dst) (hwf : Memory.wf s.mem)
    (h0 : FitsAddr s.params s.a0) (h2 : FitsAddr s.params s.a2) (h4 : FitsAddr s.params s.a4) :
    ∃ t, RunAt c k s t s.a4.toNat ∧ runConverter c k s = .next (finish t) := by
  refine ⟨runLoop c k s.a4.toNat s.a4.toNat (startRun s),
    runLoop_spec hk hready _ (Nat.le_refl _) (by simpa using startRun_at k hwf h0 h2 h4), ?_⟩
  have hb := (runBreach_none_iff s c.src c.dst).mpr hready.buffers
  have hkk : ¬ (c.dither = true ∧ contexts s ≤ k) := fun ⟨hd, h⟩ => by have := hk hd; omega
  have hst : ¬ (s.a1 = 0 ∨ s.a3 = 0) := fun h => h.elim hready.dstStride hready.srcStride
  rw [runConverter, if_neg himpl, if_neg hkk, if_neg hst, hb]

/-! ## Frames that need no good operands -/

/-- What `n` samples of a RUN leave alone in any state at all (R152). -/
structure LoopFrame (c : Converter) (k : Nat) (s t : State) : Prop where
  registers : SameRegisters s t
  results   : SameResults s t
  status    : t.status = s.status
  length    : t.ds.length = s.ds.length
  others    : ∀ j, (c.dither = true → j ≠ k) → t.ds[j]? = s.ds[j]?

theorem LoopFrame.refl (c : Converter) (k : Nat) (s : State) : LoopFrame c k s s :=
  ⟨⟨rfl, rfl, rfl, rfl, rfl, rfl, rfl, rfl, rfl, rfl⟩, ⟨rfl, rfl, rfl, rfl⟩, rfl, rfl, fun _ _ => rfl⟩

theorem LoopFrame.trans {c : Converter} {k : Nat} {s t u : State} (h : LoopFrame c k s t) (g : LoopFrame c k t u) :
    LoopFrame c k s u := by
  obtain ⟨⟨a1, a2, a3, a4, a5, a6, a7, a8, a9, a10⟩, ⟨b1, b2, b3, b4⟩, hs, hl, ho⟩ := h
  obtain ⟨⟨c1, c2, c3, c4, c5, c6, c7, c8, c9, c10⟩, ⟨d1, d2, d3, d4⟩, gs, gl, go⟩ := g
  exact ⟨⟨c1.trans a1, c2.trans a2, c3.trans a3, c4.trans a4, c5.trans a5, c6.trans a6, c7.trans a7, c8.trans a8,
    c9.trans a9, c10.trans a10⟩, ⟨d1.trans b1, d2.trans b2, d3.trans b3, d4.trans b4⟩, gs.trans hs, gl.trans hl,
    fun j hj => (go j hj).trans (ho j hj)⟩

theorem LoopFrame.stored {c : Converter} {k : Nat} {s u : State} (h : LoopFrame c k s u) (f : Format) (a n : Nat) (q : Word) :
    LoopFrame c k s (advanceRun c (storeSample f a q (u.setDraws n))) :=
  ⟨⟨h.1.1, h.1.2, h.1.3, h.1.4, h.1.5, h.1.6, h.1.7, h.1.8, h.1.9, h.1.10⟩, ⟨h.2.1, h.2.2, h.2.3, h.2.4⟩, h.3, h.4, h.5⟩

theorem sampleDither_frame (c : Converter) (k : Nat) (s : State) : LoopFrame c k s (sampleDither c k s).2 := by
  rw [sampleDither_spec]
  by_cases hdi : c.dither = true
  · rw [if_pos hdi]
    exact ⟨⟨rfl, rfl, rfl, rfl, rfl, rfl, rfl, rfl, rfl, rfl⟩, ⟨rfl, rfl, rfl, rfl⟩, rfl, List.length_set,
      fun j hj => List.getElem?_set_ne (Ne.symm (hj hdi))⟩
  · rw [if_neg hdi]
    exact .refl c k s

theorem convertSample_frame (c : Converter) (k : Nat) (accelerated : Bool) (s : State) :
    LoopFrame c k s (convertSample c k accelerated s) := by
  have h := sampleDither_frame c k s
  simp only [convertSample]
  generalize sampleDither c k s = d at *
  obtain ⟨-, n, hn⟩ := sampleResult_spec c accelerated
    (c.kernel (loadElem s.params.bigEndian s.mem c.src s.work.sp.toNat) d.1) d.2
  rw [hn]
  exact h.stored _ _ _ _

theorem runLoop_frame (c : Converter) (k count n : Nat) (s : State) : LoopFrame c k s (runLoop c k count n s) := by
  induction n generalizing s with
  | zero => exact .refl c k s
  | succ n ih => exact (convertSample_frame c k _ s).trans (ih _)

/-- The frame of every RUN that answers a next state: a code other than OK and STATUS alone, or OK and `LoopFrame`. -/
theorem runConverter_next {c : Converter} {k : Nat} {s t : State} (h : runConverter c k s = .next t) :
    ((t = raise .notImplemented s ∨ t = raise .badOperand s) ∨
      ∃ u, LoopFrame c k s u ∧ t = finish u) := by
  rcases runConverter_cases c k s with ⟨-, -, e⟩ | ⟨-, e⟩ | ⟨r, -, e⟩ | ⟨-, -, e⟩ <;> rw [e] at h
  · exact .inl (.inl (by injection h with h; exact h.symm))
  · exact .inl (.inr (by injection h with h; exact h.symm))
  · cases h
  · injection h with h
    have hs : LoopFrame c k s (startRun s) :=
      ⟨⟨rfl, rfl, rfl, rfl, rfl, rfl, rfl, rfl, rfl, rfl⟩, ⟨rfl, rfl, rfl, rfl⟩, rfl, rfl, fun _ _ => rfl⟩
    exact .inr ⟨_, hs.trans (runLoop_frame c k _ _ (startRun s)), h.symm⟩

/-- A RUN that answers a next state keeps the number of contexts, and changes no context but that of an implemented converter
whose D bit is 1 (R27, R77, R154). -/
theorem runConverter_contexts {c : Converter} {k : Nat} {s t : State} (h : runConverter c k s = .next t) :
    t.ds.length = s.ds.length ∧
      ∀ j, (c.dither = true → (c.src, c.dst) ∉ Config.unimpl → j ≠ k) → t.ds[j]? = s.ds[j]? := by
  by_cases hu : c.dither ∧ (c.src, c.dst) ∈ Config.unimpl
  · rw [runConverter, if_pos hu] at h
    injection h with h
    exact ⟨by rw [← h]; rfl, fun _ _ => by rw [← h]; rfl⟩
  · rcases runConverter_next h with (rfl | rfl) | ⟨u, hf, rfl⟩
    · exact ⟨rfl, fun _ _ => rfl⟩
    · exact ⟨rfl, fun _ _ => rfl⟩
    · exact ⟨hf.length, fun j hj => hf.others j fun hd => hj hd fun hm => hu ⟨hd, hm⟩⟩

/-! ## ZERO -/

/-- The states a ZERO passes through: `i` elements of the ZERO that started in s are done in t. -/
structure ZeroAt (f : Format) (p : Word) (s t : State) (i : Nat) : Prop where
  registers : SameRegisters s t
  results   : SameResults s t
  status    : t.status = s.status
  contexts  : t.ds = s.ds
  draws     : t.draws = s.draws
  wf        : Memory.wf t.mem
  inSpace   : ∀ x ∈ t.mem, x ∈ s.mem ∨ InView f s.a0.toNat s.a1.toNat i x.1
  memory    : ∀ a, ¬ InView f s.a0.toNat s.a1.toNat i a → readByte t.mem a = readByte s.mem a
  elements  : ∀ j < i, elemAt t f (dstAddr s f j) = keepBits (sampleBits f) p
  workFits  : t.work.sp = s.work.sp ∧ FitsAddr s.params t.work.dp ∧ FitsAddr s.params t.work.n
  address   : i < s.a2.toNat → t.work.dp.toNat = dstAddr s f i

theorem zeroSample_spec {f : Format} {p : Word} {i : Nat} {s t : State} (h : ZeroAt f p s t i) (hready : ZeroReady s f)
    (hi : i < s.a2.toNat) : ZeroAt f p s (advanceZero f (storeSample f t.work.dp.toNat p t)) (i + 1) := by
  obtain ⟨⟨hp, hw, h0, h1, h2, h3, h4, hc, hal, hho⟩, hres, hst, hds, hdr, hwf, hin, hmem, hel, hwork, hadr⟩ := h
  have hdst := hready.buffer.resolve_left (by omega)
  have hdp := hadr hi
  rw [hdp]
  refine ⟨⟨hp, hw, h0, h1, h2, h3, h4, hc, hal, hho⟩, ⟨hres.1, hres.2, hres.3, hres.4⟩, hst, hds, hdr,
    storeElem_wf hwf _ _ _, fun x hx => ?_, fun a ha => ?_, fun j hj => ?_, ⟨hwork.1, ?_⟩, fun hn => ?_⟩
  · rcases mem_storeElem hx with hx | ⟨hx1, hx2⟩
    · exact (hin x hx).imp id (inView_mono (by omega))
    · exact .inr (inView_of_range (Nat.lt_succ_self i) hx1 hx2)
  · refine (readByte_storeElem_outside ?_).trans (hmem a fun hv => ha (inView_mono (by omega) hv))
    by_contra hcon
    exact ha (inView_of_range (Nat.lt_succ_self i) (by simp only [dstAddr] at hcon; omega)
      (by simp only [dstAddr] at hcon; omega))
  · rcases Nat.lt_succ_iff_lt_or_eq.mp hj with hj | rfl
    · have hpos : 0 < s.a1.toNat := by
        rcases Nat.eq_zero_or_pos s.a1.toNat with h | h
        · exact absurd (BitVec.eq_of_toNat_eq h) hready.stride
        · exact h
      exact (loadElem_storeElem_other (.inl
        (elemAddr_apart (base := s.a0.toNat) (size := elemSize f) hpos hj))).trans (hel j hj)
    · exact loadElem_storeElem_same hwf f _ p
  · rw [← hp]
    exact ⟨truncAddr_fits _ _, truncAddr_fits _ _⟩
  · have := hdst.inSpace _ (inView_elem hn (elemSize_pos f))
    simp only [Nat.add_zero, elemAddr_succ] at this
    show (truncAddr t.params (t.work.dp.toNat + t.a1.toNat * elemSize f)).toNat = _
    rw [hp, hdp, h1, dstAddr, dstAddr, elemAddr_succ]
    exact truncAddr_of_lt this

theorem zeroLoop_spec {f : Format} {p : Word} {s : State} (hready : ZeroReady s f) (n : Nat) (hn : n ≤ s.a2.toNat)
    {t : State} (h : ZeroAt f p s t (s.a2.toNat - n)) : ZeroAt f p s (zeroLoop f p n t) s.a2.toNat := by
  induction n generalizing t with
  | zero => exact h
  | succ n ih =>
    have := zeroSample_spec h hready (by omega)
    rw [show s.a2.toNat - (n + 1) + 1 = s.a2.toNat - n by omega] at this
    exact ih (by omega) this

/-- Everything a ZERO can answer (R267). -/
theorem runZero_cases (f : Format) (p : Word) (s : State) :
    (s.a1 = 0 ∧ runZero f p s = .next (raise .badOperand s)) ∨
    (∃ r, zeroBreach f s = some r ∧ runZero f p s = .refused r) ∨
    (ZeroReady s f ∧ runZero f p s = .next (finish (zeroLoop f p s.a2.toNat (startZero s)))) := by
  simp only [runZero]
  split
  · exact .inl ⟨by assumption, rfl⟩
  · cases hb : zeroBreach f s with
    | some r => exact .inr (.inl ⟨r, rfl, rfl⟩)
    | none => exact .inr (.inr ⟨⟨by assumption, (zeroBreach_none_iff ..).mp hb⟩, rfl⟩)

/-- A ZERO whose operands are good ends with STATUS = OK in a state of which `ZeroAt` says everything (R267). -/
theorem runZero_ready {f : Format} {p : Word} {s : State} (hready : ZeroReady s f) (hwf : Memory.wf s.mem)
    (h0 : FitsAddr s.params s.a0) (h2 : FitsAddr s.params s.a2) :
    ∃ t, ZeroAt f p s t s.a2.toNat ∧ runZero f p s = .next (finish t) := by
  have hstart : ZeroAt f p s (startZero s) 0 :=
    ⟨⟨rfl, rfl, rfl, rfl, rfl, rfl, rfl, rfl, rfl, rfl⟩, ⟨rfl, rfl, rfl, rfl⟩, rfl, rfl, rfl, hwf, fun _ hx => .inl hx, fun _ _ => rfl,
      fun j hj => absurd hj (Nat.not_lt_zero j), ⟨rfl, h0, h2⟩,
      fun _ => by simp [startZero, dstAddr, elemAddr_zero]⟩
  refine ⟨zeroLoop f p s.a2.toNat (startZero s), zeroLoop_spec hready _ (Nat.le_refl _) (by simpa using hstart), ?_⟩
  have hb := (zeroBreach_none_iff s f).mpr hready.buffer
  rw [runZero, if_neg hready.stride, hb]

/-- What the elements of a ZERO leave alone in any state at all (R267). -/
structure ZeroLoopFrame (s t : State) : Prop where
  registers : SameRegisters s t
  results   : SameResults s t
  status    : t.status = s.status
  contexts  : t.ds = s.ds
  draws     : t.draws = s.draws

theorem zeroLoop_frame (f : Format) (p : Word) (n : Nat) (s : State) : ZeroLoopFrame s (zeroLoop f p n s) := by
  induction n generalizing s with
  | zero => exact ⟨⟨rfl, rfl, rfl, rfl, rfl, rfl, rfl, rfl, rfl, rfl⟩, ⟨rfl, rfl, rfl, rfl⟩, rfl, rfl, rfl⟩
  | succ n ih =>
    obtain ⟨⟨c1, c2, c3, c4, c5, c6, c7, c8, c9, c10⟩, ⟨d1, d2, d3, d4⟩, gs, gl, go⟩ :=
      ih (advanceZero f (storeSample f s.work.dp.toNat p s))
    exact ⟨⟨c1, c2, c3, c4, c5, c6, c7, c8, c9, c10⟩, ⟨d1, d2, d3, d4⟩, gs, gl, go⟩

/-- The frame of every ZERO that answers a next state. -/
theorem runZero_next {f : Format} {p : Word} {s t : State} (h : runZero f p s = .next t) :
    t = raise .badOperand s ∨ ∃ u, ZeroLoopFrame s u ∧ t = finish u := by
  rcases runZero_cases f p s with ⟨-, e⟩ | ⟨r, -, e⟩ | ⟨-, e⟩ <;> rw [e] at h
  · exact .inl (by injection h with h; exact h.symm)
  · cases h
  · injection h with h
    obtain ⟨⟨c1, c2, c3, c4, c5, c6, c7, c8, c9, c10⟩, ⟨d1, d2, d3, d4⟩, gs, gl, go⟩ :=
      zeroLoop_frame f p s.a2.toNat (startZero s)
    exact .inr ⟨_, ⟨⟨c1, c2, c3, c4, c5, c6, c7, c8, c9, c10⟩, ⟨d1, d2, d3, d4⟩, gs, gl, go⟩, h.symm⟩

end Sys2Proof.Laws
end

