-- ==== Sys2Proof/Laws/Exec.lean ====
section
/-! SUPPORT. What `exec` answers, command by command: which shared operation a command runs, and everything each operation can
answer. -/

namespace Sys2Proof.Laws

open Sys2Proof.Machine

/-! ## The operation each command runs -/

@[simp] theorem exec_copyF32 (k : Nat) (s : State) : exec (.copyF32 k) s = runConverter (copyConverter .f32) k s := rfl
@[simp] theorem exec_cvtF32I32 (k : Nat) (s : State) :
    exec (.cvtF32I32 k) s = runConverter (floatConverter .i32 false false 0) k s := rfl
@[simp] theorem exec_cvtF32I32C (k : Nat) (s : State) :
    exec (.cvtF32I32C k) s = runConverter (floatConverter .i32 false true 0) k s := rfl
@[simp] theorem exec_cvtF32I32D (k : Nat) (s : State) :
    exec (.cvtF32I32D k) s = runConverter (floatConverter .i32 true false Config.tol32D) k s := rfl
@[simp] theorem exec_cvtF32I32Dc (k : Nat) (s : State) :
    exec (.cvtF32I32Dc k) s = runConverter (floatConverter .i32 true true Config.tol32D) k s := rfl
@[simp] theorem exec_cvtF32I24 (k : Nat) (s : State) :
    exec (.cvtF32I24 k) s = runConverter (floatConverter .i24 false false Config.tol24) k s := rfl
@[simp] theorem exec_cvtF32I24C (k : Nat) (s : State) :
    exec (.cvtF32I24C k) s = runConverter (floatConverter .i24 false true Config.tol24) k s := rfl
@[simp] theorem exec_cvtF32I24D (k : Nat) (s : State) :
    exec (.cvtF32I24D k) s = runConverter (floatConverter .i24 true false Config.tol24) k s := rfl
@[simp] theorem exec_cvtF32I24Dc (k : Nat) (s : State) :
    exec (.cvtF32I24Dc k) s = runConverter (floatConverter .i24 true true Config.tol24) k s := rfl
@[simp] theorem exec_cvtF32I16 (k : Nat) (s : State) :
    exec (.cvtF32I16 k) s = runConverter (floatConverter .i16 false false 0) k s := rfl
@[simp] theorem exec_cvtF32I16C (k : Nat) (s : State) :
    exec (.cvtF32I16C k) s = runConverter (floatConverter .i16 false true 0) k s := rfl
@[simp] theorem exec_cvtF32I16D (k : Nat) (s : State) :
    exec (.cvtF32I16D k) s = runConverter (floatConverter .i16 true false 0) k s := rfl
@[simp] theorem exec_cvtF32I16Dc (k : Nat) (s : State) :
    exec (.cvtF32I16Dc k) s = runConverter (floatConverter .i16 true true 0) k s := rfl
@[simp] theorem exec_cvtF32I8 (k : Nat) (s : State) :
    exec (.cvtF32I8 k) s = runConverter (floatConverter .i8 false false 0) k s := rfl
@[simp] theorem exec_cvtF32I8C (k : Nat) (s : State) :
    exec (.cvtF32I8C k) s = runConverter (floatConverter .i8 false true 0) k s := rfl
@[simp] theorem exec_cvtF32I8D (k : Nat) (s : State) :
    exec (.cvtF32I8D k) s = runConverter (floatConverter .i8 true false 0) k s := rfl
@[simp] theorem exec_cvtF32I8Dc (k : Nat) (s : State) :
    exec (.cvtF32I8Dc k) s = runConverter (floatConverter .i8 true true 0) k s := rfl
@[simp] theorem exec_cvtF32U8 (k : Nat) (s : State) :
    exec (.cvtF32U8 k) s = runConverter (floatConverter .u8 false false 0) k s := rfl
@[simp] theorem exec_cvtF32U8C (k : Nat) (s : State) :
    exec (.cvtF32U8C k) s = runConverter (floatConverter .u8 false true 0) k s := rfl
@[simp] theorem exec_cvtF32U8D (k : Nat) (s : State) :
    exec (.cvtF32U8D k) s = runConverter (floatConverter .u8 true false 0) k s := rfl
@[simp] theorem exec_cvtF32U8Dc (k : Nat) (s : State) :
    exec (.cvtF32U8Dc k) s = runConverter (floatConverter .u8 true true 0) k s := rfl
@[simp] theorem exec_cvtI32F32 (k : Nat) (s : State) :
    exec (.cvtI32F32 k) s = runConverter (toFloatConverter .i32) k s := rfl
@[simp] theorem exec_copyI32 (k : Nat) (s : State) : exec (.copyI32 k) s = runConverter (copyConverter .i32) k s := rfl
@[simp] theorem exec_cvtI32I24 (k : Nat) (s : State) :
    exec (.cvtI32I24 k) s = runConverter (narrowConverter .i32 .i24) k s := rfl
@[simp] theorem exec_cvtI32I24D (k : Nat) (s : State) :
    exec (.cvtI32I24D k) s = runConverter (narrowDConverter .i32 .i24) k s := rfl
@[simp] theorem exec_cvtI32I16 (k : Nat) (s : State) :
    exec (.cvtI32I16 k) s = runConverter (narrowConverter .i32 .i16) k s := rfl
@[simp] theorem exec_cvtI32I16D (k : Nat) (s : State) :
    exec (.cvtI32I16D k) s = runConverter (narrowDConverter .i32 .i16) k s := rfl
@[simp] theorem exec_cvtI32I8 (k : Nat) (s : State) :
    exec (.cvtI32I8 k) s = runConverter (narrowConverter .i32 .i8) k s := rfl
@[simp] theorem exec_cvtI32I8D (k : Nat) (s : State) :
    exec (.cvtI32I8D k) s = runConverter (narrowDConverter .i32 .i8) k s := rfl
@[simp] theorem exec_cvtI32U8 (k : Nat) (s : State) :
    exec (.cvtI32U8 k) s = runConverter (narrowConverter .i32 .u8) k s := rfl
@[simp] theorem exec_cvtI32U8D (k : Nat) (s : State) :
    exec (.cvtI32U8D k) s = runConverter (narrowDConverter .i32 .u8) k s := rfl
@[simp] theorem exec_cvtI24F32 (k : Nat) (s : State) :
    exec (.cvtI24F32 k) s = runConverter (toFloatConverter .i24) k s := rfl
@[simp] theorem exec_cvtI24I32 (k : Nat) (s : State) :
    exec (.cvtI24I32 k) s = runConverter (widenConverter .i24 .i32) k s := rfl
@[simp] theorem exec_copyI24 (k : Nat) (s : State) : exec (.copyI24 k) s = runConverter (copyConverter .i24) k s := rfl
@[simp] theorem exec_cvtI24I16 (k : Nat) (s : State) :
    exec (.cvtI24I16 k) s = runConverter (narrowConverter .i24 .i16) k s := rfl
@[simp] theorem exec_cvtI24I16D (k : Nat) (s : State) :
    exec (.cvtI24I16D k) s = runConverter (narrowDConverter .i24 .i16) k s := rfl
@[simp] theorem exec_cvtI24I8 (k : Nat) (s : State) :
    exec (.cvtI24I8 k) s = runConverter (narrowConverter .i24 .i8) k s := rfl
@[simp] theorem exec_cvtI24I8D (k : Nat) (s : State) :
    exec (.cvtI24I8D k) s = runConverter (narrowDConverter .i24 .i8) k s := rfl
@[simp] theorem exec_cvtI24U8 (k : Nat) (s : State) :
    exec (.cvtI24U8 k) s = runConverter (narrowConverter .i24 .u8) k s := rfl
@[simp] theorem exec_cvtI24U8D (k : Nat) (s : State) :
    exec (.cvtI24U8D k) s = runConverter (narrowDConverter .i24 .u8) k s := rfl
@[simp] theorem exec_cvtI16F32 (k : Nat) (s : State) :
    exec (.cvtI16F32 k) s = runConverter (toFloatConverter .i16) k s := rfl
@[simp] theorem exec_cvtI16I32 (k : Nat) (s : State) :
    exec (.cvtI16I32 k) s = runConverter (widenConverter .i16 .i32) k s := rfl
@[simp] theorem exec_cvtI16I24 (k : Nat) (s : State) :
    exec (.cvtI16I24 k) s = runConverter (widenConverter .i16 .i24) k s := rfl
@[simp] theorem exec_copyI16 (k : Nat) (s : State) : exec (.copyI16 k) s = runConverter (copyConverter .i16) k s := rfl
@[simp] theorem exec_cvtI16I8 (k : Nat) (s : State) :
    exec (.cvtI16I8 k) s = runConverter (narrowConverter .i16 .i8) k s := rfl
@[simp] theorem exec_cvtI16I8D (k : Nat) (s : State) :
    exec (.cvtI16I8D k) s = runConverter (narrowDConverter .i16 .i8) k s := rfl
@[simp] theorem exec_cvtI16U8 (k : Nat) (s : State) :
    exec (.cvtI16U8 k) s = runConverter (narrowConverter .i16 .u8) k s := rfl
@[simp] theorem exec_cvtI16U8D (k : Nat) (s : State) :
    exec (.cvtI16U8D k) s = runConverter (narrowDConverter .i16 .u8) k s := rfl
@[simp] theorem exec_cvtI8F32 (k : Nat) (s : State) :
    exec (.cvtI8F32 k) s = runConverter (toFloatConverter .i8) k s := rfl
@[simp] theorem exec_cvtI8I32 (k : Nat) (s : State) :
    exec (.cvtI8I32 k) s = runConverter (widenConverter .i8 .i32) k s := rfl
@[simp] theorem exec_cvtI8I24 (k : Nat) (s : State) :
    exec (.cvtI8I24 k) s = runConverter (widenConverter .i8 .i24) k s := rfl
@[simp] theorem exec_cvtI8I16 (k : Nat) (s : State) :
    exec (.cvtI8I16 k) s = runConverter (widenConverter .i8 .i16) k s := rfl
@[simp] theorem exec_copyI8 (k : Nat) (s : State) : exec (.copyI8 k) s = runConverter (copyConverter .i8) k s := rfl
@[simp] theorem exec_cvtI8U8 (k : Nat) (s : State) :
    exec (.cvtI8U8 k) s = runConverter (widenConverter .i8 .u8) k s := rfl
@[simp] theorem exec_cvtU8F32 (k : Nat) (s : State) :
    exec (.cvtU8F32 k) s = runConverter (toFloatConverter .u8) k s := rfl
@[simp] theorem exec_cvtU8I32 (k : Nat) (s : State) :
    exec (.cvtU8I32 k) s = runConverter (widenConverter .u8 .i32) k s := rfl
@[simp] theorem exec_cvtU8I24 (k : Nat) (s : State) :
    exec (.cvtU8I24 k) s = runConverter (widenConverter .u8 .i24) k s := rfl
@[simp] theorem exec_cvtU8I16 (k : Nat) (s : State) :
    exec (.cvtU8I16 k) s = runConverter (widenConverter .u8 .i16) k s := rfl
@[simp] theorem exec_cvtU8I8 (k : Nat) (s : State) :
    exec (.cvtU8I8 k) s = runConverter (widenConverter .u8 .i8) k s := rfl
@[simp] theorem exec_copyU8 (k : Nat) (s : State) : exec (.copyU8 k) s = runConverter (copyConverter .u8) k s := rfl
@[simp] theorem exec_zeroF32 (s : State) : exec .zeroF32 s = runZero .f32 (silence .f32) s := rfl
@[simp] theorem exec_zeroI32 (s : State) : exec .zeroI32 s = runZero .i32 (silence .i32) s := rfl
@[simp] theorem exec_zeroI24 (s : State) : exec .zeroI24 s = runZero .i24 (silence .i24) s := rfl
@[simp] theorem exec_zeroI16 (s : State) : exec .zeroI16 s = runZero .i16 (silence .i16) s := rfl
@[simp] theorem exec_zeroI8 (s : State) : exec .zeroI8 s = runZero .i8 (silence .i8) s := rfl
@[simp] theorem exec_zeroU8 (s : State) : exec .zeroU8 s = runZero .u8 (silence .u8) s := rfl
@[simp] theorem exec_dinit (k : Nat) (s : State) :
    exec (.dinit k) s = onContext k s fun s => s.setDs (s.ds.set k (initialCtx s.params)) := rfl
@[simp] theorem exec_dither16 (k : Nat) (s : State) :
    exec (.dither16 k) s = onContext k s (stepOnce integerResult k) := rfl
@[simp] theorem exec_ditherf (k : Nat) (s : State) : exec (.ditherf k) s = onContext k s (stepOnce floatResult k) := rfl
@[simp] theorem exec_vdither16 (k : Nat) (s : State) :
    exec (.vdither16 k) s = onContext k s (stepFour integerResult k) := rfl
@[simp] theorem exec_vditherf (k : Nat) (s : State) :
    exec (.vditherf k) s = onContext k s (stepFour floatResult k) := rfl
@[simp] theorem exec_resolve (c d : Bool) (s : State) : exec (.resolve c d) s = execResolve c d s := rfl
@[simp] theorem exec_selfmt (s : State) : exec .selfmt s = execSelfmt s := rfl
@[simp] theorem exec_setctrl (a : Bool) (s : State) :
    exec (.setctrl a) s = .next (finish (s.setCtrl (withAccel s.ctrl a))) := rfl

/-! ## The kinds of command -/

/-- A RUN command: its opcode is 0x01 and it runs one converter on its context. -/
def IsRun (i : Instr) : Prop := opcField (encode i) = 1 ∧ ∃ k c, dctxOf i = some k ∧ ∀ s, exec i s = runConverter c k s

/-- A ZERO command: its opcode is 0x02 and it fills with the silence of one format. -/
def IsZero (i : Instr) : Prop := opcField (encode i) = 2 ∧ dctxOf i = none ∧ ∃ f, ∀ s, exec i s = runZero f (silence f) s

/-- A dither command: it runs one effect on its context, and the effect steps or sets that context and may write RESULT
registers. -/
def IsDither (i : Instr) : Prop :=
  5 ≤ opcField (encode i) ∧ ∃ k effect, dctxOf i = some k ∧ (∀ s, exec i s = onContext k s effect) ∧
    ∀ s, ∃ c r0 r1 r2 r3,
      effect s = ((((s.setDs (s.ds.set k c)).setResult0 r0).setResult1 r1).setResult2 r2).setResult3 r3

/-- The effect of one dither step, as one update of the context file (R106, R107). -/
theorem stepOnce_spec (form : Int → Word) (k : Nat) (s : State) :
    stepOnce form k s = (s.setDs (s.ds.set k (ditherStep (contextAt s k)).2)).setResult0
      (form (ditherStep (contextAt s k)).1) := rfl

/-- The effect of four dither steps, context by context (R108, R109). -/
theorem stepFour_eq (form : Int → Word) (k : Nat) (s : State) :
    stepFour form k s =
      (((((nextDither k (nextDither k (nextDither k (nextDither k s).2).2).2).2.setResult0
        (form (nextDither k s).1)).setResult1 (form (nextDither k (nextDither k s).2).1)).setResult2
        (form (nextDither k (nextDither k (nextDither k s).2).2).1)).setResult3
        (form (nextDither k (nextDither k (nextDither k (nextDither k s).2).2).2).1)) := by
  simp only [stepFour]

/-- A dither step after n of them on a context the instance has. -/
theorem nextDither_after {k : Nat} {s : State} (hk : k < contexts s) (n : Nat) :
    nextDither k (s.setDs (s.ds.set k (ctxAfter (contextAt s k) n))) =
      (ditherValue (contextAt s k) n, s.setDs (s.ds.set k (ctxAfter (contextAt s k) (n + 1)))) := by
  rw [nextDither_spec, contextAt_setDs_set hk, setDs_ds, List.set_set]
  rfl

/-- The effect of four dither steps on a context the instance has (R108, R109). -/
theorem stepFour_spec {form : Int → Word} {k : Nat} {s : State} (hk : k < contexts s) :
    stepFour form k s =
      ((((s.setDs (s.ds.set k (ctxAfter (contextAt s k) 4))).setResult0 (form (ditherValue (contextAt s k) 0))).setResult1
        (form (ditherValue (contextAt s k) 1))).setResult2 (form (ditherValue (contextAt s k) 2))).setResult3
        (form (ditherValue (contextAt s k) 3)) := by
  have h0 : nextDither k s =
      (ditherValue (contextAt s k) 0, s.setDs (s.ds.set k (ctxAfter (contextAt s k) 1))) := nextDither_spec k s
  rw [stepFour_eq, h0]
  simp only [nextDither_after hk]

theorem stepOnce_shape (form : Int → Word) (k : Nat) (s : State) : ∃ c r0 r1 r2 r3, stepOnce form k s =
    ((((s.setDs (s.ds.set k c)).setResult0 r0).setResult1 r1).setResult2 r2).setResult3 r3 := by
  refine ⟨(ditherStep (contextAt s k)).2, form (ditherStep (contextAt s k)).1, s.result1, s.result2, s.result3, ?_⟩
  rw [stepOnce_spec]
  generalize s.ds.set k (ditherStep (contextAt s k)).2 = l
  generalize form (ditherStep (contextAt s k)).1 = r
  rfl

theorem stepFour_shape (form : Int → Word) (k : Nat) (s : State) : ∃ c r0 r1 r2 r3, stepFour form k s =
    ((((s.setDs (s.ds.set k c)).setResult0 r0).setResult1 r1).setResult2 r2).setResult3 r3 := by
  rw [stepFour_eq]
  simp only [nextDither_spec, setDs_ds, List.set_set]
  exact ⟨_, _, _, _, _, rfl⟩

/-- Every command is a RUN, a ZERO, a dither command or one of the three others. -/
theorem exec_shape (i : Instr) :
    IsRun i ∨ IsZero i ∨ IsDither i ∨ (∃ c d, i = .resolve c d) ∨ i = .selfmt ∨ ∃ a, i = .setctrl a := by
  cases i
  case resolve c d => exact .inr (.inr (.inr (.inl ⟨c, d, rfl⟩)))
  case selfmt => exact .inr (.inr (.inr (.inr (.inl rfl))))
  case setctrl a => exact .inr (.inr (.inr (.inr (.inr ⟨a, rfl⟩))))
  case dinit k =>
    exact .inr (.inr (.inl ⟨by simp [encode], k, _, rfl, exec_dinit k,
      fun s => ⟨_, s.result0, s.result1, s.result2, s.result3, rfl⟩⟩))
  case dither16 k =>
    exact .inr (.inr (.inl ⟨by simp [encode], k, _, rfl, exec_dither16 k, stepOnce_shape _ k⟩))
  case ditherf k =>
    exact .inr (.inr (.inl ⟨by simp [encode], k, _, rfl, exec_ditherf k, stepOnce_shape _ k⟩))
  case vdither16 k => exact .inr (.inr (.inl ⟨by simp [encode], k, _, rfl, exec_vdither16 k, stepFour_shape _ k⟩))
  case vditherf k => exact .inr (.inr (.inl ⟨by simp [encode], k, _, rfl, exec_vditherf k, stepFour_shape _ k⟩))
  case copyF32 k => exact .inl ⟨by simp [encode], k, _, rfl, exec_copyF32 k⟩
  case cvtF32I32 k => exact .inl ⟨by simp [encode], k, _, rfl, exec_cvtF32I32 k⟩
  case cvtF32I32C k => exact .inl ⟨by simp [encode], k, _, rfl, exec_cvtF32I32C k⟩
  case cvtF32I32D k => exact .inl ⟨by simp [encode], k, _, rfl, exec_cvtF32I32D k⟩
  case cvtF32I32Dc k => exact .inl ⟨by simp [encode], k, _, rfl, exec_cvtF32I32Dc k⟩
  case cvtF32I24 k => exact .inl ⟨by simp [encode], k, _, rfl, exec_cvtF32I24 k⟩
  case cvtF32I24C k => exact .inl ⟨by simp [encode], k, _, rfl, exec_cvtF32I24C k⟩
  case cvtF32I24D k => exact .inl ⟨by simp [encode], k, _, rfl, exec_cvtF32I24D k⟩
  case cvtF32I24Dc k => exact .inl ⟨by simp [encode], k, _, rfl, exec_cvtF32I24Dc k⟩
  case cvtF32I16 k => exact .inl ⟨by simp [encode], k, _, rfl, exec_cvtF32I16 k⟩
  case cvtF32I16C k => exact .inl ⟨by simp [encode], k, _, rfl, exec_cvtF32I16C k⟩
  case cvtF32I16D k => exact .inl ⟨by simp [encode], k, _, rfl, exec_cvtF32I16D k⟩
  case cvtF32I16Dc k => exact .inl ⟨by simp [encode], k, _, rfl, exec_cvtF32I16Dc k⟩
  case cvtF32I8 k => exact .inl ⟨by simp [encode], k, _, rfl, exec_cvtF32I8 k⟩
  case cvtF32I8C k => exact .inl ⟨by simp [encode], k, _, rfl, exec_cvtF32I8C k⟩
  case cvtF32I8D k => exact .inl ⟨by simp [encode], k, _, rfl, exec_cvtF32I8D k⟩
  case cvtF32I8Dc k => exact .inl ⟨by simp [encode], k, _, rfl, exec_cvtF32I8Dc k⟩
  case cvtF32U8 k => exact .inl ⟨by simp [encode], k, _, rfl, exec_cvtF32U8 k⟩
  case cvtF32U8C k => exact .inl ⟨by simp [encode], k, _, rfl, exec_cvtF32U8C k⟩
  case cvtF32U8D k => exact .inl ⟨by simp [encode], k, _, rfl, exec_cvtF32U8D k⟩
  case cvtF32U8Dc k => exact .inl ⟨by simp [encode], k, _, rfl, exec_cvtF32U8Dc k⟩
  case cvtI32F32 k => exact .inl ⟨by simp [encode], k, _, rfl, exec_cvtI32F32 k⟩
  case copyI32 k => exact .inl ⟨by simp [encode], k, _, rfl, exec_copyI32 k⟩
  case cvtI32I24 k => exact .inl ⟨by simp [encode], k, _, rfl, exec_cvtI32I24 k⟩
  case cvtI32I24D k => exact .inl ⟨by simp [encode], k, _, rfl, exec_cvtI32I24D k⟩
  case cvtI32I16 k => exact .inl ⟨by simp [encode], k, _, rfl, exec_cvtI32I16 k⟩
  case cvtI32I16D k => exact .inl ⟨by simp [encode], k, _, rfl, exec_cvtI32I16D k⟩
  case cvtI32I8 k => exact .inl ⟨by simp [encode], k, _, rfl, exec_cvtI32I8 k⟩
  case cvtI32I8D k => exact .inl ⟨by simp [encode], k, _, rfl, exec_cvtI32I8D k⟩
  case cvtI32U8 k => exact .inl ⟨by simp [encode], k, _, rfl, exec_cvtI32U8 k⟩
  case cvtI32U8D k => exact .inl ⟨by simp [encode], k, _, rfl, exec_cvtI32U8D k⟩
  case cvtI24F32 k => exact .inl ⟨by simp [encode], k, _, rfl, exec_cvtI24F32 k⟩
  case cvtI24I32 k => exact .inl ⟨by simp [encode], k, _, rfl, exec_cvtI24I32 k⟩
  case copyI24 k => exact .inl ⟨by simp [encode], k, _, rfl, exec_copyI24 k⟩
  case cvtI24I16 k => exact .inl ⟨by simp [encode], k, _, rfl, exec_cvtI24I16 k⟩
  case cvtI24I16D k => exact .inl ⟨by simp [encode], k, _, rfl, exec_cvtI24I16D k⟩
  case cvtI24I8 k => exact .inl ⟨by simp [encode], k, _, rfl, exec_cvtI24I8 k⟩
  case cvtI24I8D k => exact .inl ⟨by simp [encode], k, _, rfl, exec_cvtI24I8D k⟩
  case cvtI24U8 k => exact .inl ⟨by simp [encode], k, _, rfl, exec_cvtI24U8 k⟩
  case cvtI24U8D k => exact .inl ⟨by simp [encode], k, _, rfl, exec_cvtI24U8D k⟩
  case cvtI16F32 k => exact .inl ⟨by simp [encode], k, _, rfl, exec_cvtI16F32 k⟩
  case cvtI16I32 k => exact .inl ⟨by simp [encode], k, _, rfl, exec_cvtI16I32 k⟩
  case cvtI16I24 k => exact .inl ⟨by simp [encode], k, _, rfl, exec_cvtI16I24 k⟩
  case copyI16 k => exact .inl ⟨by simp [encode], k, _, rfl, exec_copyI16 k⟩
  case cvtI16I8 k => exact .inl ⟨by simp [encode], k, _, rfl, exec_cvtI16I8 k⟩
  case cvtI16I8D k => exact .inl ⟨by simp [encode], k, _, rfl, exec_cvtI16I8D k⟩
  case cvtI16U8 k => exact .inl ⟨by simp [encode], k, _, rfl, exec_cvtI16U8 k⟩
  case cvtI16U8D k => exact .inl ⟨by simp [encode], k, _, rfl, exec_cvtI16U8D k⟩
  case cvtI8F32 k => exact .inl ⟨by simp [encode], k, _, rfl, exec_cvtI8F32 k⟩
  case cvtI8I32 k => exact .inl ⟨by simp [encode], k, _, rfl, exec_cvtI8I32 k⟩
  case cvtI8I24 k => exact .inl ⟨by simp [encode], k, _, rfl, exec_cvtI8I24 k⟩
  case cvtI8I16 k => exact .inl ⟨by simp [encode], k, _, rfl, exec_cvtI8I16 k⟩
  case copyI8 k => exact .inl ⟨by simp [encode], k, _, rfl, exec_copyI8 k⟩
  case cvtI8U8 k => exact .inl ⟨by simp [encode], k, _, rfl, exec_cvtI8U8 k⟩
  case cvtU8F32 k => exact .inl ⟨by simp [encode], k, _, rfl, exec_cvtU8F32 k⟩
  case cvtU8I32 k => exact .inl ⟨by simp [encode], k, _, rfl, exec_cvtU8I32 k⟩
  case cvtU8I24 k => exact .inl ⟨by simp [encode], k, _, rfl, exec_cvtU8I24 k⟩
  case cvtU8I16 k => exact .inl ⟨by simp [encode], k, _, rfl, exec_cvtU8I16 k⟩
  case cvtU8I8 k => exact .inl ⟨by simp [encode], k, _, rfl, exec_cvtU8I8 k⟩
  case copyU8 k => exact .inl ⟨by simp [encode], k, _, rfl, exec_copyU8 k⟩
  case zeroF32 => exact .inr (.inl ⟨by simp [encode], rfl, _, exec_zeroF32⟩)
  case zeroI32 => exact .inr (.inl ⟨by simp [encode], rfl, _, exec_zeroI32⟩)
  case zeroI24 => exact .inr (.inl ⟨by simp [encode], rfl, _, exec_zeroI24⟩)
  case zeroI16 => exact .inr (.inl ⟨by simp [encode], rfl, _, exec_zeroI16⟩)
  case zeroI8 => exact .inr (.inl ⟨by simp [encode], rfl, _, exec_zeroI8⟩)
  case zeroU8 => exact .inr (.inl ⟨by simp [encode], rfl, _, exec_zeroU8⟩)

/-- Everything a dither command can answer (R306). -/
theorem onContext_cases (k : Nat) (s : State) (effect : State → State) :
    (contexts s ≤ k ∧ onContext k s effect = .next (raise .badOperand s)) ∨
    (k < contexts s ∧ onContext k s effect = .next (finish (effect s))) := by
  by_cases h : contexts s ≤ k
  · exact .inl ⟨h, by simp [onContext, h]⟩
  · exact .inr ⟨by omega, by simp [onContext, h]⟩

/-- Everything RESOLVE can answer (R133). -/
theorem execResolve_cases (c d : Bool) (s : State) :
    (∃ id, execResolve c d s = .next (finish (s.setResult0 (BitVec.ofNat 32 id)))) ∨
    execResolve c d s = .next (raise .notImplemented (s.setResult0 resolveSentinel)) ∨
    execResolve c d s = .next (raise .notSupported (s.setResult0 resolveSentinel)) := by
  unfold execResolve
  split
  · split
    · exact .inl ⟨_, rfl⟩
    · exact .inr (.inl rfl)
  · exact .inr (.inr rfl)

/-- Everything SELFMT can answer (R121). -/
theorem execSelfmt_cases (s : State) :
    (∃ k, execSelfmt s = .next (finish (s.setResult0 (formatBit k)))) ∨
    execSelfmt s = .next (raise .notSupported (s.setResult0 0)) := by
  unfold execSelfmt
  split
  · exact .inr rfl
  · split
    · exact .inl ⟨_, rfl⟩
    · exact .inr rfl

/-- The codes as STATUS holds them (R300). -/
theorem codeWord_values : codeWord .ok = 0 ∧ codeWord .notSupported = 1 ∧ codeWord .notImplemented = 2 ∧
    codeWord .illegalCommand = 3 ∧ codeWord .badOperand = 4 := ⟨rfl, rfl, rfl, rfl, rfl⟩

end Sys2Proof.Laws
end

