-- ==== Sys2Proof/Laws/Float.lean ====
section
/-! SUPPORT. What the operations on rationals and binary32 patterns do (R8, R9): powers of two, truncation and clamping in
Mathlib's terms, the binade of a rational, rounding to an integer, and the value of a pattern assembled from its fields. -/

namespace Sys2Proof.Laws

open Sys2Proof.Machine

theorem powTwo_eq (e : Int) : powTwo e = (2 : ℚ) ^ e := by
  unfold powTwo
  split
  · obtain ⟨n, rfl⟩ := Int.eq_ofNat_of_zero_le ‹_›
    simp [Rat.mkRat_eq_div]
  · obtain ⟨n, hn⟩ := Int.eq_ofNat_of_zero_le (show 0 ≤ -e by omega)
    obtain rfl : e = -n := by omega
    simp [Rat.mkRat_eq_div]

/-- `trunc` (R8) as floor and ceiling. -/
theorem truncRat_eq (q : ℚ) : truncRat q = if 0 ≤ q then ⌊q⌋ else ⌈q⌉ := by
  unfold truncRat
  split
  · rfl
  · rw [Rat.ceil_eq_neg_floor_neg]; rfl

/-- `clamp` (R8) as minimum and maximum. -/
theorem clampRat_eq {q lo hi : ℚ} (h : lo ≤ hi) : clampRat q lo hi = max lo (min q hi) := by
  unfold clampRat
  split
  · rw [max_eq_left]; exact (min_le_left _ _).trans (le_of_lt ‹_›)
  · split
    · rw [min_eq_right (le_of_lt ‹_›), max_eq_right h]
    · rw [min_eq_left (by linarith), max_eq_right (by linarith)]

/-! ## The binade of a rational -/

theorem descendExponent_spec (q : ℚ) (fuel : Nat) (e : Int) (h : q < 2 ^ (e + 1)) :
    e - fuel ≤ descendExponent q fuel e ∧ descendExponent q fuel e ≤ e ∧ q < 2 ^ (descendExponent q fuel e + 1) ∧
      (2 ^ descendExponent q fuel e ≤ q ∨ descendExponent q fuel e = e - fuel) := by
  induction fuel generalizing e with
  | zero => simpa [descendExponent] using h
  | succ n ih =>
    rw [descendExponent, powTwo_eq]
    split
    · exact ⟨by omega, le_refl _, h, .inl ‹_›⟩
    · obtain ⟨h1, h2, h3, h4⟩ := ih (e - 1) (by rw [show e - 1 + 1 = e by omega]; linarith)
      exact ⟨by omega, by omega, h3, h4.imp id (by omega)⟩

/-- The binade of a positive rational: it lies below 2^(e+1), and at 2^e or above unless e is -126. -/
theorem binade_spec {q : ℚ} (h : 0 < q) :
    -126 ≤ binade q ∧ q < 2 ^ (binade q + 1) ∧ (2 ^ binade q ≤ q ∨ binade q = -126) := by
  have hn : 0 < q.num := Rat.num_pos.mpr h
  have hq : q < 2 ^ ((q.num.natAbs.log2 : Int) + 1) := by
    have h1 : q ≤ (q.num.natAbs : ℚ) := by
      have h2 : q * q.den = q.num := Rat.mul_den_eq_num q
      have h3 : (1 : ℚ) ≤ q.den := by exact_mod_cast q.den_pos
      have h5 : (q.num.natAbs : ℚ) = q.num := by rw [← Int.cast_natCast, Int.natAbs_of_nonneg hn.le]
      rw [h5, ← h2]
      exact le_mul_of_one_le_right h.le h3
    refine h1.trans_lt ?_
    have h6 : q.num.natAbs < 2 ^ (q.num.natAbs.log2 + 1) := Nat.lt_log2_self
    calc (q.num.natAbs : ℚ) < ((2 ^ (q.num.natAbs.log2 + 1) : Nat) : ℚ) := by exact_mod_cast h6
      _ = 2 ^ ((q.num.natAbs.log2 : Int) + 1) := by push_cast; norm_cast
  obtain ⟨h1, h2, h3, h4⟩ := descendExponent_spec q (q.num.natAbs.log2 + 126) q.num.natAbs.log2 hq
  change _ ≤ binade q at h1
  change q < 2 ^ (binade q + 1) at h3
  change 2 ^ binade q ≤ q ∨ binade q = _ at h4
  exact ⟨by omega, h3, h4.imp id (by omega)⟩

/-! ## Rounding -/

/-- The nearest integer: within a half, and even when exactly a half away. -/
theorem roundHalfEven_spec {q : ℚ} (h : 0 ≤ q) :
    |(roundHalfEven q : ℚ) - q| ≤ 1 / 2 ∧ (|(roundHalfEven q : ℚ) - q| = 1 / 2 → roundHalfEven q % 2 = 0) := by
  have hf : (0 : Int) ≤ ⌊q⌋ := Int.floor_nonneg.mpr h
  have hn : ((q.floor.toNat : Nat) : ℚ) = (⌊q⌋ : ℚ) := by
    have : ((q.floor.toNat : Nat) : Int) = ⌊q⌋ := Int.toNat_of_nonneg hf
    exact_mod_cast this
  have h1 := Int.floor_le q
  have h2 := Int.lt_floor_add_one q
  rw [← hn] at h1 h2
  unfold roundHalfEven
  simp only [Rat.mkRat_eq_div, Nat.cast_one, div_one, Int.cast_natCast, Nat.cast_ofNat, Int.cast_one]
  generalize q.floor.toNat = n at *
  have hneg : ∀ x : ℚ, (n : ℚ) ≤ x → |(n : ℚ) - x| = x - n := fun x hx => by rw [abs_sub_comm, abs_of_nonneg]; linarith
  split
  · rw [hneg q h1]
    exact ⟨by linarith, fun h => by linarith⟩
  · split
    · rw [abs_of_nonneg (by push_cast; linarith)]
      push_cast
      exact ⟨by linarith, fun h => by linarith⟩
    · have hh : q - n = 1 / 2 := by linarith
      split
      · rw [hneg q h1, hh]
        exact ⟨le_refl _, fun _ => ‹_›⟩
      · rw [abs_of_nonneg (by push_cast; linarith)]
        push_cast
        exact ⟨by linarith, fun _ => by omega⟩

/-! ## The value of a pattern -/

theorem exponentField_eq (b : Word) : exponentField b = b.toNat / 2 ^ 23 % 2 ^ 8 := by
  simp [exponentField, BitVec.extractLsb', Nat.shiftRight_eq_div_pow]

theorem fractionField_eq (b : Word) : fractionField b = b.toNat % 2 ^ 23 := by simp [fractionField]

theorem signBit_eq (b : Word) : signBit b = decide (2 ^ 31 ≤ b.toNat) := by
  have h := b.isLt
  simp only [signBit, BitVec.getLsbD, Nat.testBit_eq_decide_div_mod_eq]
  congr 1
  simp only [eq_iff_iff]
  omega

/-- The value of a pattern assembled from a sign, an exponent field `e` and a significand `n` that may have carried into the
exponent (R9). -/
theorem fval_assembled (negative : Bool) {e n : Nat} (hn : n ≤ 2 ^ 24) (he : e = 0 ∨ 2 ^ 23 ≤ n)
    (hp : e * 2 ^ 23 + n < 255 * 2 ^ 23) {b : Word} (hb : b.toNat = negative.toNat * 2 ^ 31 + (e * 2 ^ 23 + n)) :
    fval b = .finite (withSign negative (n * 2 ^ ((e : Int) - 149))) := by
  have hs : signBit b = negative := by
    rw [signBit_eq, hb]
    cases negative <;> simp
    omega
  have hexp : exponentField b = e + n / 2 ^ 23 := by
    rw [exponentField_eq, hb]
    cases negative <;> simp only [Bool.toNat_false, Bool.toNat_true] <;> omega
  have hfrac : fractionField b = n % 2 ^ 23 := by
    rw [fractionField_eq, hb]
    cases negative <;> simp only [Bool.toNat_false, Bool.toNat_true] <;> omega
  have h255 : e + n / 2 ^ 23 ≠ 255 := by omega
  simp only [fval, hs, hexp, hfrac, h255, if_false, powTwo_eq, Rat.mkRat_eq_div, Nat.cast_one, div_one]
  by_cases hz : e + n / 2 ^ 23 = 0
  · have hn' : n % 2 ^ 23 = n := by omega
    have he' : e = 0 := by omega
    rw [if_pos hz, hn', he']
    simp
  · rw [if_neg hz]
    congr 2
    have hcases : n / 2 ^ 23 = 1 ∨ n / 2 ^ 23 = 2 := by omega
    rcases hcases with h1 | h2
    · have hsum : (2 : Int) ^ 23 + ((n % 2 ^ 23 : Nat) : Int) = n := by omega
      rw [h1, hsum]
      congr 1
      congr 1
      push_cast; omega
    · obtain rfl : n = 2 ^ 24 := by omega
      rw [show 2 ^ 24 / 2 ^ 23 = 2 from rfl, show 2 ^ 24 % 2 ^ 23 = 0 from rfl]
      rw [show (((e + 2 : Nat) : Int) - 150) = ((e : Int) - 149) + 1 by push_cast; omega, zpow_add_one₀ (by norm_num)]
      push_cast
      ring

/-- The pattern of the rounded magnitude of a rational up to 1 (R9): its exponent field and significand, the significand
being the magnitude in units of the last place rounded to an integer. -/
theorem magnitudePattern_spec {q : ℚ} (h : 0 < q) (h1 : q ≤ 1) :
    ∃ e n : Nat, magnitudePattern q = e * 2 ^ 23 + n ∧ n ≤ 2 ^ 24 ∧ (e = 0 ∨ 2 ^ 23 ≤ n) ∧
      e * 2 ^ 23 + n ≤ 127 * 2 ^ 23 ∧ n = roundHalfEven (q * 2 ^ (149 - (e : Int))) ∧
      (e = 0 ∨ 2 ^ 23 ≤ q * 2 ^ (149 - (e : Int))) ∧ q * 2 ^ (149 - (e : Int)) < 2 ^ 24 := by
  obtain ⟨b1, b2, b3⟩ := binade_spec h
  have hb0 : binade q ≤ 0 := by
    rcases b3 with b3 | b3
    · by_contra hc
      have : (2 : ℚ) ^ (1 : Int) ≤ 2 ^ binade q := zpow_le_zpow_right₀ (by norm_num) (by omega)
      norm_num at this
      linarith
    · omega
  obtain ⟨e, he⟩ : ∃ e : Nat, binade q = e - 126 := ⟨(binade q + 126).toNat, by omega⟩
  have hpow : (2 : ℚ) ^ (23 - binade q) = 2 ^ (149 - (e : Int)) := by rw [he]; congr 1; omega
  have hpos : (0 : ℚ) < 2 ^ (149 - (e : Int)) := by positivity
  have hhi : q * 2 ^ (149 - (e : Int)) < 2 ^ 24 := by
    have : (2 : ℚ) ^ (binade q + 1) * 2 ^ (149 - (e : Int)) = 2 ^ 24 := by
      rw [← zpow_add₀ (by norm_num), he, show (e : Int) - 126 + 1 + (149 - e) = (24 : Nat) by omega, zpow_natCast]
    rw [← this]
    exact mul_lt_mul_of_pos_right b2 hpos
  have hlo : e = 0 ∨ 2 ^ 23 ≤ q * 2 ^ (149 - (e : Int)) := by
    rcases b3 with b3 | b3
    · right
      have : (2 : ℚ) ^ (binade q) * 2 ^ (149 - (e : Int)) = 2 ^ 23 := by
        rw [← zpow_add₀ (by norm_num), he, show (e : Int) - 126 + (149 - e) = (23 : Nat) by omega, zpow_natCast]
      rw [← this]
      exact mul_le_mul_of_nonneg_right b3 hpos.le
    · left; omega
  obtain ⟨r1, -⟩ := roundHalfEven_spec (mul_nonneg h.le hpos.le)
  rw [abs_le] at r1
  have hn : roundHalfEven (q * 2 ^ (149 - (e : Int))) ≤ 2 ^ 24 := by
    have : (roundHalfEven (q * 2 ^ (149 - (e : Int))) : ℚ) < ((2 ^ 24 + 1 : Nat) : ℚ) := by push_cast; linarith [r1.2]
    have := Nat.cast_lt.mp this
    omega
  refine ⟨e, _, ?_, hn, ?_, ?_, rfl, hlo, hhi⟩
  · simp only [magnitudePattern, powTwo_eq, hpow]
    rw [show (binade q + 126).toNat = e by omega]
  · refine hlo.imp id fun hl => ?_
    generalize roundHalfEven (q * 2 ^ (149 - (e : Int))) = n at r1 ⊢
    by_contra hc
    have : ((n + 1 : Nat) : ℚ) ≤ ((2 ^ 23 : Nat) : ℚ) := Nat.cast_le.mpr (by omega)
    push_cast at this
    linarith [r1.1]
  · by_cases hz : e = 126
    · have hq1 : q = 1 := by
        rcases b3 with b3 | b3
        · rw [he, hz] at b3; norm_num at b3; linarith
        · omega
      have h23 : q * 2 ^ (149 - (e : Int)) = 2 ^ 23 := by rw [hq1, hz]; norm_num
      generalize roundHalfEven (q * 2 ^ (149 - (e : Int))) = n at r1 ⊢
      have : (n : ℚ) < ((2 ^ 23 + 1 : Nat) : ℚ) := by push_cast; linarith [r1.2]
      have := Nat.cast_lt.mp this
      omega
    · omega

/-- The pattern `rne32` gives (R9): zero for 0, else the rounded magnitude with the sign of the argument. -/
theorem rne32_toNat {q : ℚ} (h : |q| ≤ 1) (h0 : q ≠ 0) :
    (rne32 q).toNat = (decide (q < 0)).toNat * 2 ^ 31 + magnitudePattern |q| := by
  obtain ⟨e, n, hm, -, -, hle, -⟩ := magnitudePattern_spec (abs_pos.mpr h0) h
  have hlt : magnitudePattern |q| < 2 ^ 31 := by rw [hm]; omega
  unfold rne32
  rw [if_neg h0]
  by_cases hneg : q < 0
  · rw [if_pos hneg, abs_of_neg hneg] at *
    simp only [hneg, decide_true, Bool.toNat_true, Nat.one_mul]
    rw [BitVec.toNat_or, BitVec.toNat_ofNat, Nat.mod_eq_of_lt (by omega)]
    exact (Nat.two_pow_add_eq_or_of_lt (i := 31) hlt 1).symm
  · rw [if_neg hneg, abs_of_nonneg (not_lt.mp hneg)] at *
    simp only [hneg, decide_false, Bool.toNat_false, Nat.zero_mul, Nat.zero_add]
    rw [BitVec.toNat_ofNat, Nat.mod_eq_of_lt (by omega)]

end Sys2Proof.Laws
end

