-- ==== Sys2Proof/Laws/Operands.lean ====
section
/-! SUPPORT. What the operations on patterns do in plain numbers (R8, R58, R155) and which words name a format (R76). -/

namespace Sys2Proof.Laws

open Sys2Proof.Machine

theorem keepBits_toNat {n : Nat} (h : n ≤ 32) (p : Word) : (keepBits n p).toNat = p.toNat % 2 ^ n := by
  have h1 : p.toNat % 2 ^ n < 2 ^ 32 :=
    Nat.lt_of_lt_of_le (Nat.mod_lt _ (by positivity)) (Nat.pow_le_pow_right (by omega) h)
  rw [keepBits, BitVec.toNat_setWidth, BitVec.toNat_setWidth, Nat.mod_eq_of_lt h1]

theorem bitsOfInt_toNat {n : Nat} (h : n ≤ 32) (r : Int) : ((bitsOfInt n r).toNat : Int) = r % 2 ^ n := by
  have h1 : (BitVec.ofInt n r).toNat < 2 ^ 32 :=
    Nat.lt_of_lt_of_le (BitVec.isLt _) (Nat.pow_le_pow_right (by omega) h)
  rw [bitsOfInt, BitVec.toNat_setWidth, Nat.mod_eq_of_lt h1, BitVec.toNat_ofInt,
    Int.toNat_of_nonneg (Int.emod_nonneg _ (by positivity))]
  simp

theorem sampleBits_le (f : Format) : sampleBits f ≤ 32 := by cases f <;> decide

/-- The pattern of a logical value: its low bits, offset by 128 for UInt8 (R155). -/
theorem patternOf_toNat (f : Format) (r : Int) :
    ((patternOf f r).toNat : Int) = (r + if f = .u8 then 128 else 0) % 2 ^ sampleBits f := by
  have h : ∀ g : Format, ((bitsOfInt (sampleBits g) r).toNat : Int) = (r + 0) % 2 ^ sampleBits g := fun g => by
    rw [bitsOfInt_toNat (sampleBits_le g), Int.add_zero]
  cases f
  · exact h .f32
  · exact h .i32
  · exact h .i24
  · exact h .i16
  · exact h .i8
  · exact bitsOfInt_toNat (by decide) (r + 128)

theorem patternOf_lt (f : Format) (r : Int) : (patternOf f r).toNat < 2 ^ sampleBits f := by
  have h := patternOf_toNat f r
  have h1 := Int.emod_lt_of_pos (r + if f = .u8 then 128 else 0) (show (0 : Int) < 2 ^ sampleBits f by positivity)
  rw [← h] at h1
  exact_mod_cast h1

/-- The logical value of an integer sample's pattern (R58). -/
theorem logicalValue_eq {f : Format} (hf : f ≠ .f32) {p : Word} (hp : p.toNat < 2 ^ sampleBits f) :
    logicalValue f p =
      if f = .u8 then (p.toNat : Int) - 128
      else if 2 * p.toNat < 2 ^ sampleBits f then (p.toNat : Int) else p.toNat - 2 ^ sampleBits f := by
  have h : ∀ g : Format, p.toNat < 2 ^ sampleBits g → signedBits (sampleBits g) p =
      if 2 * p.toNat < 2 ^ sampleBits g then (p.toNat : Int) else p.toNat - 2 ^ sampleBits g := fun g hg => by
    rw [signedBits, BitVec.toInt_eq_toNat_cond, BitVec.toNat_setWidth, Nat.mod_eq_of_lt hg]
    push_cast
    rfl
  cases f
  · exact absurd rfl hf
  · exact h .i32 hp
  · exact h .i24 hp
  · exact h .i16 hp
  · exact h .i8 hp
  · have h8 : (keepBits 8 p).toNat = p.toNat := (keepBits_toNat (by decide) p).trans (Nat.mod_eq_of_lt hp)
    show ((keepBits 8 p).toNat : Int) - 128 = _
    rw [h8, if_pos rfl]

/-- A logical value in range is the value of its pattern. -/
theorem logicalValue_patternOf {f : Format} (hf : f ≠ .f32) {r : Int} (h1 : leastLogical f ≤ r)
    (h2 : r ≤ greatestLogical f) : logicalValue f (patternOf f r) = r := by
  have hn := patternOf_toNat f r
  rw [logicalValue_eq hf (patternOf_lt f r)]
  generalize (patternOf f r).toNat = n at *
  cases f <;> simp [leastLogical, greatestLogical, sampleBits, elemSize] at * <;> (try split) <;> omega

theorem logicalValue_range {f : Format} (hf : f ≠ .f32) {p : Word} (hp : p.toNat < 2 ^ sampleBits f) :
    leastLogical f ≤ logicalValue f p ∧ logicalValue f p ≤ greatestLogical f := by
  rw [logicalValue_eq hf hp]
  cases f <;> simp [leastLogical, greatestLogical, sampleBits, elemSize] at * <;> (try split) <;> omega

theorem stripInterleave_toNat (w : Word) : (stripInterleave w).toNat = w.toNat % 2 ^ 31 := by
  simp only [stripInterleave, BitVec.toNat_and]
  exact Nat.and_two_pow_sub_one_eq_mod w.toNat 31

end Sys2Proof.Laws
end

