-- ==== Sys2Proof/Tests/Slice0.lean ====
section
/-! SUPPORT. Tests: the decoding of words written out from R75 and R84, ill-formed commands, the spec's own vectors
(spec/95_test_vectors.md, named V1 to V18 and P1 below), and a concrete state or operand that meets the hypotheses of each
obligation. -/

namespace Sys2Proof.Tests

-- One theorem at a time: each kernel evaluation would otherwise take a thread and its stack.
set_option Elab.async false

open Sys2Proof.Machine Sys2Proof.Claims

/-! ## Well-formed commands -/

theorem test_ill_formed_dither16 : ¬ WellFormed (.dither16 256) := by decide

theorem test_ill_formed_copy : ¬ WellFormed (.copyF32 256) := by decide

theorem test_ill_formed_dithering : ¬ WellFormed (.cvtI32I16D 1000) := by decide

theorem test_well_formed_last_context : WellFormed (.vditherf 255) ∧ WellFormed (.resolve true false) := by decide

/-! ## Decoding: words from the CONVID list of R75 and the tables of R72 and R73, with a context where DCTX may be non-zero -/

theorem test_decode_copy :
    decode 0x00010001 = .command (.copyF32 1) ∧ decode 0x00022401 = .command (.copyI32 2) ∧
    decode 0x00034801 = .command (.copyI24 3) ∧ decode 0x00FF6C01 = .command (.copyI16 255) ∧
    decode 0x00809001 = .command (.copyI8 128) ∧ decode 0x005AB401 = .command (.copyU8 90) := by decide

theorem test_decode_float_to_fixed :
    decode 0x00010401 = .command (.cvtF32I32 1) ∧ decode 0x00020501 = .command (.cvtF32I32C 2) ∧
    decode 0x00030601 = .command (.cvtF32I32D 3) ∧ decode 0x00FF0701 = .command (.cvtF32I32Dc 255) ∧
    decode 0x00800801 = .command (.cvtF32I24 128) ∧ decode 0x005A0901 = .command (.cvtF32I24C 90) ∧
    decode 0x00010A01 = .command (.cvtF32I24D 1) ∧ decode 0x00020B01 = .command (.cvtF32I24Dc 2) ∧
    decode 0x00030C01 = .command (.cvtF32I16 3) ∧ decode 0x00FF0D01 = .command (.cvtF32I16C 255) ∧
    decode 0x00800E01 = .command (.cvtF32I16D 128) ∧ decode 0x005A0F01 = .command (.cvtF32I16Dc 90) ∧
    decode 0x00011001 = .command (.cvtF32I8 1) ∧ decode 0x00021101 = .command (.cvtF32I8C 2) ∧
    decode 0x00031201 = .command (.cvtF32I8D 3) ∧ decode 0x00FF1301 = .command (.cvtF32I8Dc 255) ∧
    decode 0x00801401 = .command (.cvtF32U8 128) ∧ decode 0x005A1501 = .command (.cvtF32U8C 90) ∧
    decode 0x00011601 = .command (.cvtF32U8D 1) ∧ decode 0x00021701 = .command (.cvtF32U8Dc 2) := by decide

theorem test_decode_fixed_to_float_and_widening :
    decode 0x00012001 = .command (.cvtI32F32 1) ∧ decode 0x00024001 = .command (.cvtI24F32 2) ∧
    decode 0x00034401 = .command (.cvtI24I32 3) ∧ decode 0x00FF6001 = .command (.cvtI16F32 255) ∧
    decode 0x00806401 = .command (.cvtI16I32 128) ∧ decode 0x005A6801 = .command (.cvtI16I24 90) ∧
    decode 0x00018001 = .command (.cvtI8F32 1) ∧ decode 0x00028401 = .command (.cvtI8I32 2) ∧
    decode 0x00038801 = .command (.cvtI8I24 3) ∧ decode 0x00FF8C01 = .command (.cvtI8I16 255) ∧
    decode 0x00809401 = .command (.cvtI8U8 128) ∧ decode 0x005AA001 = .command (.cvtU8F32 90) ∧
    decode 0x0001A401 = .command (.cvtU8I32 1) ∧ decode 0x0002A801 = .command (.cvtU8I24 2) ∧
    decode 0x0003AC01 = .command (.cvtU8I16 3) ∧ decode 0x00FFB001 = .command (.cvtU8I8 255) := by decide

theorem test_decode_narrowing :
    decode 0x00012801 = .command (.cvtI32I24 1) ∧ decode 0x00022A01 = .command (.cvtI32I24D 2) ∧
    decode 0x00032C01 = .command (.cvtI32I16 3) ∧ decode 0x00FF2E01 = .command (.cvtI32I16D 255) ∧
    decode 0x00803001 = .command (.cvtI32I8 128) ∧ decode 0x005A3201 = .command (.cvtI32I8D 90) ∧
    decode 0x00013401 = .command (.cvtI32U8 1) ∧ decode 0x00023601 = .command (.cvtI32U8D 2) ∧
    decode 0x00034C01 = .command (.cvtI24I16 3) ∧ decode 0x00FF4E01 = .command (.cvtI24I16D 255) ∧
    decode 0x00805001 = .command (.cvtI24I8 128) ∧ decode 0x005A5201 = .command (.cvtI24I8D 90) ∧
    decode 0x00015401 = .command (.cvtI24U8 1) ∧ decode 0x00025601 = .command (.cvtI24U8D 2) ∧
    decode 0x00037001 = .command (.cvtI16I8 3) ∧ decode 0x00FF7201 = .command (.cvtI16I8D 255) ∧
    decode 0x00807401 = .command (.cvtI16U8 128) ∧ decode 0x005A7601 = .command (.cvtI16U8D 90) := by decide

theorem test_decode_zero :
    decode 0x00000002 = .command .zeroF32 ∧ decode 0x00000102 = .command .zeroI32 ∧
    decode 0x00000202 = .command .zeroI24 ∧ decode 0x00000302 = .command .zeroI16 ∧
    decode 0x00000402 = .command .zeroI8 ∧ decode 0x00000502 = .command .zeroU8 := by decide

theorem test_decode_other :
    decode 0x00000003 = .command (.resolve false false) ∧ decode 0x00000103 = .command (.resolve true false) ∧
    decode 0x00000203 = .command (.resolve false true) ∧ decode 0x00000303 = .command (.resolve true true) ∧
    decode 0x00000004 = .command .selfmt ∧ decode 0x00030005 = .command (.dinit 3) ∧
    decode 0x00FF0006 = .command (.dither16 255) ∧ decode 0x00800007 = .command (.ditherf 128) ∧
    decode 0x005A0008 = .command (.vdither16 90) ∧ decode 0x00010009 = .command (.vditherf 1) ∧
    decode 0x0000000A = .command (.setctrl false) ∧ decode 0x0000010A = .command (.setctrl true) := by decide

/-- The rows of V15 that are illegal words. -/
theorem test_illegal_words :
    [0x00000000#32, 0x0000000B, 0x000000FF, 0x01000C01, 0x00000101, 0x00002D01, 0x00004601, 0x00009601, 0x0000C001,
      0x00001801, 0x00000602, 0x00010002, 0x00000403, 0x00010003, 0x00000104, 0x00000105, 0x00000108, 0x0000020A,
      0x0001010A].all (fun w => match decode w with | .illegal _ => true | .command _ => false) = true := by decide

/-- The row number of the opcode table and the fetch (V16). -/
theorem test_decodeTableWord : decodeTableWord 32 0x00010F01 = some (.cvtF32I16Dc 1) ∧
    decodeTableWord 32 0x01000C01 = none ∧ decodeTableWord 16 0xFFFF0C01 = some (.cvtF32I16 0) := by decide

/-! ## Kernels (V7 to V11) -/

theorem test_floatToFixed_I32_plain :
    floatToFixed .i32 false false 0xBF000000 3174 = some 0xC0000001 ∧
    floatToFixed .i32 false true 0xBF000000 3174 = some 0xC0000001 ∧
    floatToFixed .i32 false false 0xBF800000 3174 = some 0x80000001 ∧
    floatToFixed .i32 false true 0xBF800000 3174 = some 0x80000001 ∧
    floatToFixed .i32 false false 0x3F7FBE77 3174 = some 0x7FDF3B7F ∧
    floatToFixed .i32 false true 0x3F7FBE77 3174 = some 0x7FDF3B7F ∧
    floatToFixed .i32 false false 0x3F800001 3174 = none ∧
    floatToFixed .i32 false true 0x3F800001 3174 = some 0x7FFFFFFF ∧
    floatToFixed .i32 false false 0xFF800000 3174 = none ∧
    floatToFixed .i32 false true 0xFF800000 3174 = some 0x80000000 ∧
    floatToFixed .i32 false false 0x7FC00000 3174 = none ∧ floatToFixed .i32 false true 0x7FC00000 3174 = none ∧
    floatToFixed .i32 false false 0x38000000 3174 = some 0x0000FFFF ∧
    floatToFixed .i32 false true 0x38000000 3174 = some 0x0000FFFF ∧
    floatToFixed .i32 false false 0x3C010204 3174 = some 0x01020407 ∧
    floatToFixed .i32 false true 0x3C010204 3174 = some 0x01020407 := by
  decide +kernel

theorem test_floatToFixed_I32_dithered :
    floatToFixed .i32 true false 0xBF000000 3174 = some 0xC0000002 ∧
    floatToFixed .i32 true true 0xBF000000 3174 = some 0xC0000002 ∧
    floatToFixed .i32 true false 0xBF800000 3174 = some 0x80000003 ∧
    floatToFixed .i32 true true 0xBF800000 3174 = some 0x80000003 ∧
    floatToFixed .i32 true false 0x3F7FBE77 3174 = some 0x7FDF3B7E ∧
    floatToFixed .i32 true true 0x3F7FBE77 3174 = some 0x7FDF3B7E ∧
    floatToFixed .i32 true false 0x3F800001 3174 = none ∧
    floatToFixed .i32 true true 0x3F800001 3174 = some 0x7FFFFFFF ∧
    floatToFixed .i32 true false 0xFF800000 3174 = none ∧
    floatToFixed .i32 true true 0xFF800000 3174 = some 0x80000000 ∧
    floatToFixed .i32 true false 0x7FC00000 3174 = none ∧ floatToFixed .i32 true true 0x7FC00000 3174 = none ∧
    floatToFixed .i32 true false 0x38000000 3174 = some 0x00010000 ∧
    floatToFixed .i32 true true 0x38000000 3174 = some 0x00010000 ∧
    floatToFixed .i32 true false 0x3C010204 3174 = some 0x01020408 ∧
    floatToFixed .i32 true true 0x3C010204 3174 = some 0x01020408 := by
  decide +kernel

theorem test_floatToFixed_I24_plain :
    floatToFixed .i24 false false 0xBF000000 3174 = some 0xC00000 ∧
    floatToFixed .i24 false true 0xBF000000 3174 = some 0xC00000 ∧
    floatToFixed .i24 false false 0xBF800000 3174 = some 0x800000 ∧
    floatToFixed .i24 false true 0xBF800000 3174 = some 0x800000 ∧
    floatToFixed .i24 false false 0x3F7FBE77 3174 = some 0x7FDF3B ∧
    floatToFixed .i24 false true 0x3F7FBE77 3174 = some 0x7FDF3B ∧
    floatToFixed .i24 false false 0x3F800001 3174 = none ∧
    floatToFixed .i24 false true 0x3F800001 3174 = some 0x7FFFFF ∧
    floatToFixed .i24 false false 0xFF800000 3174 = none ∧
    floatToFixed .i24 false true 0xFF800000 3174 = some 0x800000 ∧
    floatToFixed .i24 false false 0x7FC00000 3174 = none ∧ floatToFixed .i24 false true 0x7FC00000 3174 = none ∧
    floatToFixed .i24 false false 0x38000000 3174 = some 0x0000FF ∧
    floatToFixed .i24 false true 0x38000000 3174 = some 0x0000FF ∧
    floatToFixed .i24 false false 0x3C010204 3174 = some 0x010204 ∧
    floatToFixed .i24 false true 0x3C010204 3174 = some 0x010204 := by
  decide +kernel

theorem test_floatToFixed_I24_dithered :
    floatToFixed .i24 true false 0xBF000000 3174 = some 0xC00000 ∧
    floatToFixed .i24 true true 0xBF000000 3174 = some 0xC00000 ∧
    floatToFixed .i24 true false 0xBF800000 3174 = some 0x800000 ∧
    floatToFixed .i24 true true 0xBF800000 3174 = some 0x800000 ∧
    floatToFixed .i24 true false 0x3F7FBE77 3174 = some 0x7FDF3B ∧
    floatToFixed .i24 true true 0x3F7FBE77 3174 = some 0x7FDF3B ∧ floatToFixed .i24 true false 0x3F800001 3174 = none ∧
    floatToFixed .i24 true true 0x3F800001 3174 = some 0x7FFFFF ∧ floatToFixed .i24 true false 0xFF800000 3174 = none ∧
    floatToFixed .i24 true true 0xFF800000 3174 = some 0x800000 ∧ floatToFixed .i24 true false 0x7FC00000 3174 = none ∧
    floatToFixed .i24 true true 0x7FC00000 3174 = none ∧ floatToFixed .i24 true false 0x38000000 3174 = some 0x000100 ∧
    floatToFixed .i24 true true 0x38000000 3174 = some 0x000100 ∧
    floatToFixed .i24 true false 0x3C010204 3174 = some 0x010204 ∧
    floatToFixed .i24 true true 0x3C010204 3174 = some 0x010204 := by
  decide +kernel

theorem test_floatToFixed_I16_plain :
    floatToFixed .i16 false false 0xBF000000 3174 = some 0xC001 ∧
    floatToFixed .i16 false true 0xBF000000 3174 = some 0xC001 ∧
    floatToFixed .i16 false false 0xBF800000 3174 = some 0x8001 ∧
    floatToFixed .i16 false true 0xBF800000 3174 = some 0x8001 ∧
    floatToFixed .i16 false false 0x3F7FBE77 3174 = some 0x7FDE ∧
    floatToFixed .i16 false true 0x3F7FBE77 3174 = some 0x7FDE ∧
    floatToFixed .i16 false false 0x3F800001 3174 = some 0x7FFF ∧
    floatToFixed .i16 false true 0x3F800001 3174 = some 0x7FFF ∧ floatToFixed .i16 false false 0xFF800000 3174 = none ∧
    floatToFixed .i16 false true 0xFF800000 3174 = some 0x8000 ∧ floatToFixed .i16 false false 0x7FC00000 3174 = none ∧
    floatToFixed .i16 false true 0x7FC00000 3174 = none ∧ floatToFixed .i16 false false 0x38000000 3174 = some 0x0000 ∧
    floatToFixed .i16 false true 0x38000000 3174 = some 0x0000 ∧
    floatToFixed .i16 false false 0x3C010204 3174 = some 0x0102 ∧
    floatToFixed .i16 false true 0x3C010204 3174 = some 0x0102 := by
  decide +kernel

theorem test_floatToFixed_I16_dithered :
    floatToFixed .i16 true false 0xBF000000 3174 = some 0xC002 ∧
    floatToFixed .i16 true true 0xBF000000 3174 = some 0xC002 ∧
    floatToFixed .i16 true false 0xBF800000 3174 = some 0x8003 ∧
    floatToFixed .i16 true true 0xBF800000 3174 = some 0x8003 ∧
    floatToFixed .i16 true false 0x3F7FBE77 3174 = some 0x7FDD ∧
    floatToFixed .i16 true true 0x3F7FBE77 3174 = some 0x7FDD ∧
    floatToFixed .i16 true false 0x3F800001 3174 = some 0x7FFE ∧
    floatToFixed .i16 true true 0x3F800001 3174 = some 0x7FFE ∧ floatToFixed .i16 true false 0xFF800000 3174 = none ∧
    floatToFixed .i16 true true 0xFF800000 3174 = some 0x8000 ∧ floatToFixed .i16 true false 0x7FC00000 3174 = none ∧
    floatToFixed .i16 true true 0x7FC00000 3174 = none ∧ floatToFixed .i16 true false 0x38000000 3174 = some 0x0001 ∧
    floatToFixed .i16 true true 0x38000000 3174 = some 0x0001 ∧
    floatToFixed .i16 true false 0x3C010204 3174 = some 0x0102 ∧
    floatToFixed .i16 true true 0x3C010204 3174 = some 0x0102 := by
  decide +kernel

theorem test_floatToFixed_I8_plain :
    floatToFixed .i8 false false 0xBF000000 3174 = some 0xC1 ∧ floatToFixed .i8 false true 0xBF000000 3174 = some 0xC1 ∧
    floatToFixed .i8 false false 0xBF800000 3174 = some 0x81 ∧ floatToFixed .i8 false true 0xBF800000 3174 = some 0x81 ∧
    floatToFixed .i8 false false 0x3F7FBE77 3174 = some 0x7E ∧ floatToFixed .i8 false true 0x3F7FBE77 3174 = some 0x7E ∧
    floatToFixed .i8 false false 0x3F800001 3174 = some 0x7F ∧ floatToFixed .i8 false true 0x3F800001 3174 = some 0x7F ∧
    floatToFixed .i8 false false 0xFF800000 3174 = none ∧ floatToFixed .i8 false true 0xFF800000 3174 = some 0x80 ∧
    floatToFixed .i8 false false 0x7FC00000 3174 = none ∧ floatToFixed .i8 false true 0x7FC00000 3174 = none ∧
    floatToFixed .i8 false false 0x38000000 3174 = some 0x00 ∧ floatToFixed .i8 false true 0x38000000 3174 = some 0x00 ∧
    floatToFixed .i8 false false 0x3C010204 3174 = some 0x00 ∧
    floatToFixed .i8 false true 0x3C010204 3174 = some 0x00 := by
  decide +kernel

theorem test_floatToFixed_I8_dithered :
    floatToFixed .i8 true false 0xBF000000 3174 = some 0xC2 ∧ floatToFixed .i8 true true 0xBF000000 3174 = some 0xC2 ∧
    floatToFixed .i8 true false 0xBF800000 3174 = some 0x83 ∧ floatToFixed .i8 true true 0xBF800000 3174 = some 0x83 ∧
    floatToFixed .i8 true false 0x3F7FBE77 3174 = some 0x7D ∧ floatToFixed .i8 true true 0x3F7FBE77 3174 = some 0x7D ∧
    floatToFixed .i8 true false 0x3F800001 3174 = some 0x7E ∧ floatToFixed .i8 true true 0x3F800001 3174 = some 0x7E ∧
    floatToFixed .i8 true false 0xFF800000 3174 = none ∧ floatToFixed .i8 true true 0xFF800000 3174 = some 0x80 ∧
    floatToFixed .i8 true false 0x7FC00000 3174 = none ∧ floatToFixed .i8 true true 0x7FC00000 3174 = none ∧
    floatToFixed .i8 true false 0x38000000 3174 = some 0x00 ∧ floatToFixed .i8 true true 0x38000000 3174 = some 0x00 ∧
    floatToFixed .i8 true false 0x3C010204 3174 = some 0x01 ∧
    floatToFixed .i8 true true 0x3C010204 3174 = some 0x01 := by
  decide +kernel

theorem test_floatToFixed_U8_plain :
    floatToFixed .u8 false false 0xBF000000 3174 = some 0x41 ∧ floatToFixed .u8 false true 0xBF000000 3174 = some 0x41 ∧
    floatToFixed .u8 false false 0xBF800000 3174 = some 0x01 ∧ floatToFixed .u8 false true 0xBF800000 3174 = some 0x01 ∧
    floatToFixed .u8 false false 0x3F7FBE77 3174 = some 0xFE ∧ floatToFixed .u8 false true 0x3F7FBE77 3174 = some 0xFE ∧
    floatToFixed .u8 false false 0x3F800001 3174 = some 0xFF ∧ floatToFixed .u8 false true 0x3F800001 3174 = some 0xFF ∧
    floatToFixed .u8 false false 0xFF800000 3174 = none ∧ floatToFixed .u8 false true 0xFF800000 3174 = some 0x00 ∧
    floatToFixed .u8 false false 0x7FC00000 3174 = none ∧ floatToFixed .u8 false true 0x7FC00000 3174 = none ∧
    floatToFixed .u8 false false 0x38000000 3174 = some 0x80 ∧ floatToFixed .u8 false true 0x38000000 3174 = some 0x80 ∧
    floatToFixed .u8 false false 0x3C010204 3174 = some 0x80 ∧
    floatToFixed .u8 false true 0x3C010204 3174 = some 0x80 := by
  decide +kernel

theorem test_floatToFixed_U8_dithered :
    floatToFixed .u8 true false 0xBF000000 3174 = some 0x42 ∧ floatToFixed .u8 true true 0xBF000000 3174 = some 0x42 ∧
    floatToFixed .u8 true false 0xBF800000 3174 = some 0x03 ∧ floatToFixed .u8 true true 0xBF800000 3174 = some 0x03 ∧
    floatToFixed .u8 true false 0x3F7FBE77 3174 = some 0xFD ∧ floatToFixed .u8 true true 0x3F7FBE77 3174 = some 0xFD ∧
    floatToFixed .u8 true false 0x3F800001 3174 = some 0xFE ∧ floatToFixed .u8 true true 0x3F800001 3174 = some 0xFE ∧
    floatToFixed .u8 true false 0xFF800000 3174 = none ∧ floatToFixed .u8 true true 0xFF800000 3174 = some 0x00 ∧
    floatToFixed .u8 true false 0x7FC00000 3174 = none ∧ floatToFixed .u8 true true 0x7FC00000 3174 = none ∧
    floatToFixed .u8 true false 0x38000000 3174 = some 0x80 ∧ floatToFixed .u8 true true 0x38000000 3174 = some 0x80 ∧
    floatToFixed .u8 true false 0x3C010204 3174 = some 0x81 ∧
    floatToFixed .u8 true true 0x3C010204 3174 = some 0x81 := by
  decide +kernel

theorem test_floatToFixed_headroom :
    floatToFixed .i16 true false 0x3F000000 (-16334) = some 0x3FFE ∧
    floatToFixed .i16 true false 0x3F000000 (32766) = some 0x3FFF ∧
    floatToFixed .i16 true false 0x3F000000 (-32766) = some 0x3FFE ∧
    floatToFixed .i16 true false 0x3F800000 (32766) = some 0x7FFE ∧
    floatToFixed .i16 true false 0xBF800000 (-32766) = some 0x8002 ∧
    floatToFixed .i16 true false 0x00000000 (-32766) = some 0x0000 ∧
    floatToFixed .i8 true true 0xBF800000 (-32766) = some 0x82 ∧
    floatToFixed .u8 true true 0x3F800000 (32766) = some 0xFE ∧
    floatToFixed .i32 true false 0x3F800000 (32766) = some 0x7FFFFFFE ∧
    floatToFixed .i32 true false 0xBF800000 (-32766) = some 0x80000002 ∧
    floatToFixed .i24 true false 0xBF800000 (-32766) = some 0x800000 ∧
    floatToFixed .i16 true false 0x3F800001 (32766) = some 0x7FFF ∧
    floatToFixed .i16 true false 0x3F800100 (32766) = some 0x7FFF ∧
    floatToFixed .i16 true false 0x3F800200 (32766) = none ∧
    floatToFixed .i16 true true 0x3F800200 (32766) = some 0x7FFF := by
  decide +kernel

theorem test_fixedToFloat_I32 :
    fixedToFloat .i32 0x7FFFFFFF 0 = some 0x3F800000 ∧ fixedToFloat .i32 0x80000001 0 = some 0xBF800000 ∧
    fixedToFloat .i32 0xEDCBA988 0 = some 0xBE11A2B4 ∧ fixedToFloat .i32 0x01000001 0 = some 0x3C000000 ∧
    fixedToFloat .i32 0x01000003 0 = some 0x3C000002 ∧ fixedToFloat .i32 0x7FFFFFC0 0 = some 0x3F800000 ∧
    fixedToFloat .i32 0x00FFFFFF 0 = some 0x3BFFFFFF ∧ fixedToFloat .i32 0x01000002 0 = some 0x3C000001 := by
  decide +kernel

theorem test_fixedToFloat_I24 :
    fixedToFloat .i24 0x000001 0 = some 0x34000000 ∧ fixedToFloat .i24 0xFFFFFF 0 = some 0xB4000000 ∧
    fixedToFloat .i24 0x400000 0 = some 0x3F000000 ∧ fixedToFloat .i24 0x7FFFFF 0 = some 0x3F7FFFFE ∧
    fixedToFloat .i24 0x800000 0 = some 0xBF800000 ∧ fixedToFloat .i24 0x800001 0 = some 0xBF7FFFFE := by
  decide +kernel

theorem test_fixedToFloat_I16 :
    fixedToFloat .i16 0x0001 0 = some 0x38000000 ∧ fixedToFloat .i16 0xFFFF 0 = some 0xB8000000 ∧
    fixedToFloat .i16 0x4000 0 = some 0x3F000000 ∧ fixedToFloat .i16 0x7FFF 0 = some 0x3F7FFE00 ∧
    fixedToFloat .i16 0x8000 0 = some 0xBF800000 ∧ fixedToFloat .i16 0x1234 0 = some 0x3E11A000 := by
  decide +kernel

theorem test_fixedToFloat_I8 :
    fixedToFloat .i8 0x01 0 = some 0x3C000000 ∧ fixedToFloat .i8 0xFF 0 = some 0xBC000000 ∧
    fixedToFloat .i8 0x40 0 = some 0x3F000000 ∧ fixedToFloat .i8 0x7F 0 = some 0x3F7E0000 ∧
    fixedToFloat .i8 0x80 0 = some 0xBF800000 ∧ fixedToFloat .i8 0x12 0 = some 0x3E100000 := by
  decide +kernel

theorem test_fixedToFloat_U8 :
    fixedToFloat .u8 0x81 0 = some 0x3C000000 ∧ fixedToFloat .u8 0x7F 0 = some 0xBC000000 ∧
    fixedToFloat .u8 0xC0 0 = some 0x3F000000 ∧ fixedToFloat .u8 0xFF 0 = some 0x3F7E0000 ∧
    fixedToFloat .u8 0x00 0 = some 0xBF800000 ∧ fixedToFloat .u8 0x92 0 = some 0x3E100000 := by
  decide +kernel

theorem test_widenKernel_I24 :
    widenKernel .i24 .i32 0xFFFFFF 0 = some 0xFFFFFF00 ∧ widenKernel .i24 .i32 0x000001 0 = some 0x00000100 := by
  decide +kernel

theorem test_widenKernel_I16 :
    widenKernel .i16 .i32 0xFFFF 0 = some 0xFFFF0000 ∧ widenKernel .i16 .i32 0x0001 0 = some 0x00010000 ∧
    widenKernel .i16 .i24 0xFFFF 0 = some 0xFFFF00 ∧ widenKernel .i16 .i24 0x0001 0 = some 0x000100 := by
  decide +kernel

theorem test_widenKernel_I8 :
    widenKernel .i8 .i32 0xFF 0 = some 0xFF000000 ∧ widenKernel .i8 .i32 0x01 0 = some 0x01000000 ∧
    widenKernel .i8 .i24 0xFF 0 = some 0xFF0000 ∧ widenKernel .i8 .i24 0x01 0 = some 0x010000 ∧
    widenKernel .i8 .i16 0xFF 0 = some 0xFF00 ∧ widenKernel .i8 .i16 0x01 0 = some 0x0100 ∧
    widenKernel .i8 .u8 0x12 0 = some 0x92 ∧ widenKernel .i8 .u8 0x80 0 = some 0x00 := by
  decide +kernel

theorem test_widenKernel_U8 :
    widenKernel .u8 .i32 0x92 0 = some 0x12000000 ∧ widenKernel .u8 .i32 0x00 0 = some 0x80000000 ∧
    widenKernel .u8 .i24 0x92 0 = some 0x120000 ∧ widenKernel .u8 .i24 0x00 0 = some 0x800000 ∧
    widenKernel .u8 .i16 0x92 0 = some 0x1200 ∧ widenKernel .u8 .i16 0x00 0 = some 0x8000 ∧
    widenKernel .u8 .i8 0x92 0 = some 0x12 ∧ widenKernel .u8 .i8 0x00 0 = some 0x80 := by
  decide +kernel

theorem test_narrowKernel_I32 :
    narrowKernel .i32 .i24 0x12345678 0 = some 0x123456 ∧ narrowKernel .i32 .i24 0x80000000 0 = some 0x800000 ∧
    narrowKernel .i32 .i24 0x000000FF 0 = some 0x000000 ∧ narrowKernel .i32 .i16 0x12345678 0 = some 0x1234 ∧
    narrowKernel .i32 .i16 0x80000000 0 = some 0x8000 ∧ narrowKernel .i32 .i16 0x0000FFFF 0 = some 0x0000 ∧
    narrowKernel .i32 .i8 0x12345678 0 = some 0x12 ∧ narrowKernel .i32 .i8 0x80000000 0 = some 0x80 ∧
    narrowKernel .i32 .i8 0x00FFFFFF 0 = some 0x00 ∧ narrowKernel .i32 .u8 0x12345678 0 = some 0x92 ∧
    narrowKernel .i32 .u8 0x7FFFFFFF 0 = some 0xFF ∧ narrowKernel .i32 .u8 0x00FFFFFF 0 = some 0x80 := by
  decide +kernel

theorem test_narrowKernel_I24 :
    narrowKernel .i24 .i16 0x123456 0 = some 0x1234 ∧ narrowKernel .i24 .i16 0x800000 0 = some 0x8000 ∧
    narrowKernel .i24 .i16 0x0000FF 0 = some 0x0000 ∧ narrowKernel .i24 .i8 0x123456 0 = some 0x12 ∧
    narrowKernel .i24 .i8 0x800000 0 = some 0x80 ∧ narrowKernel .i24 .i8 0x00FFFF 0 = some 0x00 ∧
    narrowKernel .i24 .u8 0x123456 0 = some 0x92 ∧ narrowKernel .i24 .u8 0x7FFFFF 0 = some 0xFF ∧
    narrowKernel .i24 .u8 0x800000 0 = some 0x00 := by
  decide +kernel

theorem test_narrowKernel_I16 :
    narrowKernel .i16 .i8 0x1234 0 = some 0x12 ∧ narrowKernel .i16 .i8 0x8000 0 = some 0x80 ∧
    narrowKernel .i16 .i8 0x00FF 0 = some 0x00 ∧ narrowKernel .i16 .u8 0x1234 0 = some 0x92 ∧
    narrowKernel .i16 .u8 0x7FFF 0 = some 0xFF ∧ narrowKernel .i16 .u8 0x8000 0 = some 0x00 := by
  decide +kernel

theorem test_narrowDKernel_I32_I16 :
    narrowDKernel .i32 .i16 0x12345678 (-16334) = some 0x1233 ∧
    narrowDKernel .i32 .i16 0x12345678 (32766) = some 0x1235 ∧ narrowDKernel .i32 .i16 0x80000000 (3174) = some 0x8000 ∧
    narrowDKernel .i32 .i16 0x80000000 (-1) = some 0x7FFF ∧ narrowDKernel .i32 .i16 0x7FFF0003 (32766) = some 0x7FFF ∧
    narrowDKernel .i32 .i16 0x7FFF0004 (32766) = some 0x8000 ∧
    narrowDKernel .i32 .i16 0x8000FFFC (-32766) = some 0x8000 ∧
    narrowDKernel .i32 .i16 0x8000FFFB (-32766) = some 0x7FFF := by
  decide +kernel

theorem test_narrowDKernel_I32_I8 :
    narrowDKernel .i32 .i8 0xFFFFFFFF (3174) = some 0x00 ∧ narrowDKernel .i32 .i8 0xFFFFFFFF (-16334) = some 0xFF ∧
    narrowDKernel .i32 .i8 0x00008000 (-16384) = some 0x00 ∧ narrowDKernel .i32 .i8 0x00FFFFFF (1) = some 0x01 ∧
    narrowDKernel .i32 .i8 0x00FFFFFF (0) = some 0x00 ∧ narrowDKernel .i32 .i8 0x7FFFFFFF (3174) = some 0x80 ∧
    narrowDKernel .i32 .i8 0x7FFFFFFF (0) = some 0x7F ∧ narrowDKernel .i32 .i8 0x80000000 (-16334) = some 0x7F := by
  decide +kernel

theorem test_narrowDKernel_I24_I16 :
    narrowDKernel .i24 .i16 0x123456 (-16334) = some 0x1233 ∧ narrowDKernel .i24 .i16 0x123456 (32766) = some 0x1235 ∧
    narrowDKernel .i24 .i16 0x0000FF (-16334) = some 0x0000 ∧ narrowDKernel .i24 .i16 0x7FFFFF (3174) = some 0x8000 ∧
    narrowDKernel .i24 .i16 0x7FFFFF (128) = some 0x8000 ∧ narrowDKernel .i24 .i16 0x7FFFFF (127) = some 0x7FFF ∧
    narrowDKernel .i24 .i16 0x800000 (-16334) = some 0x7FFF ∧ narrowDKernel .i24 .i16 0x800000 (-1) = some 0x7FFF := by
  decide +kernel

/-! ## One command on a small state

`loaded` is the reset state with A0 = 0x2000, A1 = a1, A2 = 0x1000, A3 = a3, A4 = n, the source bytes at 0x1000 and 24 bytes of
0xEE at 0x2000. -/

def loaded (bigEndian : Bool) (a1 a3 n : Addr) (source : List Byte) : State :=
  { State.reset with
    params := { Config.defaultParams with bigEndian := bigEndian }
    a0 := 0x2000, a1 := a1, a2 := 0x1000, a3 := a3, a4 := n
    mem := writeBytes (writeBytes [] 0x1000 source) 0x2000 (List.replicate 24 0xEE) }

/-- The state a step that issues the command word w leaves; STATUS is 99 where there is none. -/
def issue (w : Nat) (s : State) : State :=
  match step (s.withFetchWord 32 w) with
  | .next t => t
  | _ => s.setStatus 99

/-- The reason a command word is refused. -/
def refusal (w : Nat) (s : State) : Option Refusal :=
  match step (s.withFetchWord 32 w) with
  | .refused r => some r
  | _ => none

def bytesAt (s : State) (a n : Nat) : List Nat := (readBytes s.mem a n).map (·.toNat)

/-- V13: COPY.F32 with a destination stride of 2; a NaN with its payload, -0.0 and -Inf bit for bit. -/
theorem test_copyF32_step : bytesAt (issue 0x00000001 (loaded false 2 1 3
      [0x01, 0x00, 0xC0, 0x7F, 0x00, 0x00, 0x00, 0x80, 0x00, 0x00, 0x80, 0xFF])) 0x2000 24 =
    [0x01, 0x00, 0xC0, 0x7F, 0xEE, 0xEE, 0xEE, 0xEE, 0x00, 0x00, 0x00, 0x80, 0xEE, 0xEE, 0xEE, 0xEE,
      0x00, 0x00, 0x80, 0xFF, 0xEE, 0xEE, 0xEE, 0xEE] := by decide +kernel

/-- V13: COPY.I24 de-interleaving, in either byte order. -/
theorem test_copyI24_step : ∀ be, bytesAt (issue 0x00004801 (loaded be 1 2 2
      [0x10, 0x11, 0x12, 0x13, 0x14, 0x15, 0x16, 0x17, 0x18, 0x19, 0x1A, 0x1B])) 0x2000 8 =
    [0x10, 0x11, 0x12, 0x16, 0x17, 0x18, 0xEE, 0xEE] := by decide +kernel

/-- V14: CVT.I32.I24 in both byte orders. -/
theorem test_cvtI32I24_step :
    bytesAt (issue 0x00002801 (loaded false 1 1 1 [0x78, 0x56, 0x34, 0x12])) 0x2000 4 = [0x56, 0x34, 0x12, 0xEE] ∧
    bytesAt (issue 0x00002801 (loaded true 1 1 1 [0x12, 0x34, 0x56, 0x78])) 0x2000 4 = [0x12, 0x34, 0x56, 0xEE] := by
  decide +kernel

/-- V14: CVT.I24.F32 in both byte orders. -/
theorem test_cvtI24F32_step :
    bytesAt (issue 0x00004001 (loaded false 1 1 1 [0x56, 0x34, 0x12])) 0x2000 4 = [0xB0, 0xA2, 0x11, 0x3E] ∧
    bytesAt (issue 0x00004001 (loaded true 1 1 1 [0x12, 0x34, 0x56])) 0x2000 4 = [0x3E, 0x11, 0xA2, 0xB0] := by
  decide +kernel

/-- V14: CVT.I16.I24 with strides 2 and 3. -/
theorem test_cvtI16I24_step : bytesAt (issue 0x00006801 (loaded false 2 3 3
      [0x10, 0x11, 0x12, 0x13, 0x14, 0x15, 0x16, 0x17, 0x18, 0x19, 0x1A, 0x1B, 0x1C, 0x1D])) 0x2000 15 =
    [0x00, 0x10, 0x11, 0xEE, 0xEE, 0xEE, 0x00, 0x16, 0x17, 0xEE, 0xEE, 0xEE, 0x00, 0x1C, 0x1D] := by decide +kernel

/-- V11: CVT.I32.I16.D on six samples takes the first six steps of V1. -/
theorem test_cvtI32I16D_step :
    let t := issue 0x00002E01 (loaded false 1 1 6 [0x78, 0x56, 0x34, 0x12, 0x78, 0x56, 0x34, 0x12, 0x78, 0x56, 0x34, 0x12,
      0xFF, 0xFF, 0xFF, 0x7F, 0, 0, 0, 0, 0, 0, 0, 0])
    bytesAt t 0x2000 12 = [0x34, 0x12, 0x33, 0x12, 0x34, 0x12, 0x00, 0x80, 0x00, 0x00, 0xFF, 0xFF] ∧
    t.ds = ⟨0xEC137684, 0xE3DF49E1, BitVec.ofInt 32 (-3077)⟩ :: List.replicate 3 ⟨22222, 5555555, 0⟩ ∧ t.status = 0 := by
  decide +kernel

/-- P1: CVT.F32.I16.DC on context 1. -/
theorem test_cvtF32I16Dc_step :
    let t := issue 0x00010F01 (loaded false 1 1 5 [0x00, 0x00, 0x00, 0x3F, 0x00, 0x00, 0x00, 0xBF, 0x00, 0x00, 0x80, 0x3F,
      0x00, 0x00, 0xC0, 0x3F, 0x9A, 0x99, 0x99, 0x3E])
    bytesAt t 0x2000 12 = [0xFF, 0x3F, 0x01, 0xC0, 0xFE, 0x7F, 0xFF, 0x7F, 0x65, 0x26, 0xEE, 0xEE] ∧
    t.ds[1]? = some ⟨0x6BB527D5, 0xBFB34F5E, 2777⟩ ∧ t.ds[0]? = some ⟨22222, 5555555, 0⟩ ∧ t.status = 0 ∧
    t.w = 0x00010F01 ∧ t.a4 = 5 := by
  decide +kernel

/-- V18: with CTRL.ACCEL = 1 and count 3 every sample is after the multiple-of-4 prefix and exact. -/
theorem test_accelerated_remainder_is_exact : bytesAt (issue 0x00000801 ((loaded false 1 1 3
      [0x00, 0x00, 0x00, 0x3F, 0x00, 0x00, 0x00, 0xBF, 0x9A, 0x99, 0x99, 0x3E]).setCtrl 1)) 0x2000 9 =
    [0xFF, 0xFF, 0x3F, 0x00, 0x00, 0xC0, 0x66, 0x66, 0x26] := by decide +kernel

/-- V18: a converter of tolerance 0 is exact inside the prefix too. -/
theorem test_accelerated_tolerance_zero_is_exact : bytesAt (issue 0x00000C01 ((loaded false 1 1 4
      [0x00, 0x00, 0x00, 0x3F, 0x00, 0x00, 0x00, 0xBF, 0x9A, 0x99, 0x99, 0x3E, 0x33, 0x33, 0x33, 0xBF]).setCtrl 1))
    0x2000 8 = [0xFF, 0x3F, 0x01, 0xC0, 0x66, 0x26, 0x68, 0xA6] := by decide +kernel

/-- R156: a NaN sample is a draw, and the RUN completes with OK. -/
theorem test_nan_sample_completes :
    (issue 0x00000C01 (loaded false 1 1 1 [0x00, 0x00, 0xC0, 0x7F])).status = 0 ∧
    (issue 0x00000C01 (loaded false 1 1 1 [0x00, 0x00, 0xC0, 0x7F])).draws = 1 := by decide +kernel

/-- V13: the six zero fills, with A2 as the count. -/
theorem test_zero_steps :
    let s := fun (a1 n : Addr) => (loaded false a1 1 0 []).setA2 n
    bytesAt (issue 0x00000002 (s 1 2)) 0x2000 12 = [0, 0, 0, 0, 0, 0, 0, 0, 0xEE, 0xEE, 0xEE, 0xEE] ∧
    bytesAt (issue 0x00000102 (s 2 2)) 0x2000 12 = [0, 0, 0, 0, 0xEE, 0xEE, 0xEE, 0xEE, 0, 0, 0, 0] ∧
    bytesAt (issue 0x00000202 (s 2 2)) 0x2000 12 = [0, 0, 0, 0xEE, 0xEE, 0xEE, 0, 0, 0, 0xEE, 0xEE, 0xEE] ∧
    bytesAt (issue 0x00000302 (s 2 3)) 0x2000 12 = [0, 0, 0xEE, 0xEE, 0, 0, 0xEE, 0xEE, 0, 0, 0xEE, 0xEE] ∧
    bytesAt (issue 0x00000402 (s 3 4)) 0x2000 12 = [0, 0xEE, 0xEE, 0, 0xEE, 0xEE, 0, 0xEE, 0xEE, 0, 0xEE, 0xEE] ∧
    bytesAt (issue 0x00000502 (s 4 3)) 0x2000 12 = [0x80, 0xEE, 0xEE, 0xEE, 0x80, 0xEE, 0xEE, 0xEE, 0x80, 0xEE, 0xEE, 0xEE] := by
  decide +kernel

/-- V15: the codes and their order, with the destination untouched. -/
theorem test_outcome_codes :
    let s := fun (a1 a3 n : Addr) => loaded false a1 a3 n []
    (issue 0x01000C01 (s 1 1 4)).status = 3 ∧ (issue 0x00040E01 (s 1 1 4)).status = 4 ∧
    (issue 0x00000C01 (s 0 1 4)).status = 4 ∧ (issue 0x00000C01 (s 1 0 0)).status = 4 ∧
    (issue 0x00000C01 (s 1 1 0)).status = 0 ∧ (issue 0x00042A01 (s 0 0 4)).status = 2 ∧
    bytesAt (issue 0x00040E01 (s 1 1 4)) 0x2000 2 = [0xEE, 0xEE] := by decide +kernel

/-- R59, R60: a breach of each duty on the buffers is refused under its own name. -/
theorem test_buffer_refusals :
    let s := loaded false 1 1 4 []
    refusal 0x00000C01 (s.setA0 0x2001) = some .misalignedBuffer ∧
    refusal 0x00000C01 (s.setA2 0xFFFFFFF4) = some .bufferWraps ∧ refusal 0x00000C01 (s.setA2 0xFFFFFFF0) = none ∧
    refusal 0x00000C01 (s.setAlloc [⟨0x1000, 16⟩, ⟨0x2000, 7⟩]) = some .bufferUnallocated ∧
    refusal 0x00000C01 (s.setAlloc [⟨0x1000, 16⟩, ⟨0x2000, 8⟩]) = none ∧
    refusal 0x00000C01 (s.setA0 0x100E) = some .buffersOverlap ∧ refusal 0x00000C01 (s.setA0 0x1010) = none := by
  decide +kernel

/-- R60: two interleaved views whose spans meet but whose bytes are disjoint are accepted. -/
theorem test_interleaved_views_accepted :
    refusal 0x00006C01 (((loaded false 2 2 4 []).setA0 0x1002)) = none ∧
    refusal 0x00006C01 (((loaded false 2 1 4 []).setA0 0x1002)) = some .buffersOverlap := by decide +kernel

/-- V1: the first steps of DITHER16. -/
theorem test_dither16_step :
    let t := issue 0x00000006 State.reset
    t.result0 = 0x00000C66 ∧ t.ds[0]? = some ⟨0xEEF79411, 0x42A64CEA, 3174⟩ ∧
    (issue 0x00000006 t).result0 = 0xFFFFC032 := by decide +kernel

/-- V1: one step from an arbitrary context. -/
theorem test_ditherStep : ditherStep ⟨0xFFFFFFFF, 0x80000000, BitVec.ofInt 32 (-5)⟩ =
    (-2012, ⟨0x2A65DF36, 0xB619636B, BitVec.ofInt 32 (-2017)⟩) := by decide +kernel

/-- V2: DITHERF and its rounding. -/
theorem test_ditherf_step : (issue 0x00000007 State.reset).result0 = 0x3DC6618D ∧ floatResult 1 = 0x38000100 ∧
    floatResult (-32766) = 0xBF7FFE00 ∧ floatResult 32767 = 0x3F800000 := by decide +kernel

/-- V3: VDITHER16. -/
theorem test_vdither16_step :
    let t := issue 0x00000008 State.reset
    [t.result0, t.result1, t.result2, t.result3] = [0x00000C66, 0xFFFFC032, 0x00001BE1, 0x00001ED3] ∧
    t.ds[0]? = some ⟨0x6BC14C02, 0xB170E487, 1868⟩ := by decide +kernel

/-- V3: VDITHERF. -/
theorem test_vditherf_step :
    let t := issue 0x00000009 State.reset
    [t.result0, t.result1, t.result2, t.result3] = [0x3DC6618D, 0xBEFF39FE, 0x3E5F09BE, 0x3E7699ED] := by decide +kernel

/-- V4: DINIT. -/
theorem test_dinit_step :
    let t := issue 0x00020005 (issue 0x00020006 State.reset)
    t.ds[2]? = some ⟨0x000056CE, 0x0054C563, 0⟩ ∧ t.result0 = 0x00000C66 ∧ (issue 0x00040005 t).status = 4 := by
  decide +kernel

/-- V5: SELFMT, with both settings of FALLBACK_UP. -/
theorem test_selfmt_step :
    let s := fun (a0 a1 : Addr) => (State.reset.setA0 a0).setA1 a1
    let best := fun (s : State) => { s with params := { s.params with fallbackUp := .best } }
    (issue 4 (s 0x09 0x10)).result0 = 0x08 ∧ (issue 4 (best (s 0x09 0x10))).result0 = 0x01 ∧
    (issue 4 (s 0x30 0x04)).result0 = 0x10 ∧ (issue 4 (s 0x80000009 0x80000010)).result0 = 0x08 ∧
    (issue 4 (s 0xFFFFFFC0 0x08)).status = 1 ∧ (issue 4 (s 0x3F 0x18)).status = 1 := by decide +kernel

/-- V6: RESOLVE. -/
theorem test_resolve_step :
    let s := fun (a0 a1 : Addr) => (State.reset.setA0 a0).setA1 a1
    (issue 0x00000103 (s 1 8)).result0 = 0x0E ∧ (issue 0x00000203 (s 1 8)).result0 = 0x0D ∧
    (issue 0x00000003 (s 0x10 0x20)).result0 = 0x94 ∧ (issue 0x00000003 (s 2 4)).status = 2 ∧
    (issue 0x00000003 (s 2 4)).result0 = 0xFFFFFFFF ∧ (issue 0x00000203 (s 2 4)).result0 = 0x28 ∧
    (issue 0x00000003 (s 6 4)).status = 1 := by decide +kernel

/-- V17: SETCTRL and the host's reads; a write to CTRL's number changes nothing. -/
theorem test_setctrl_and_host_reads :
    hostRead (issue 0x0000010A State.reset) 8 = 1 ∧ hostRead State.reset 17 = 0x0054C563 ∧
    hostRead State.reset 28 = 0x000056CE ∧ hostRead State.reset 32 = 0 ∧
    (match hostWrite 8 0xFFFFFFFF State.reset with | .next t => t.ctrl | _ => 99) = 0 := by decide +kernel

/-- R28, log 8: the working registers after a run of four Int16 samples. -/
theorem test_working_registers_after_a_run : (issue 0x00006C01 (loaded false 1 1 4 [])).work =
    { sp := 0x1008, dp := 0x2008, n := 0 } := by decide +kernel

/-! ## Witnesses: for each obligation with hypotheses, a state and operands that meet them together -/

/-- Four samples of any format at 0x1000, four elements of any format at 0x2000. -/
def exampleState : State := loaded false 1 1 4 [0x00, 0x00, 0x00, 0x3F, 0x00, 0x00, 0x80, 0xBF, 0x9A, 0x99, 0x99, 0x3E, 1, 2, 3, 4]

theorem test_example_inv : StateInv exampleState where
  memory := by decide +kernel
  inSpace := by decide +kernel
  a0 := by decide +kernel
  a1 := by decide +kernel
  a2 := by decide +kernel
  a3 := by decide +kernel
  a4 := by decide +kernel
  workSp := by decide +kernel
  workDp := by decide +kernel
  workN := by decide +kernel
  ctrl := by decide +kernel
  status := by decide +kernel
  contexts := by decide +kernel
  prevInit := by decide +kernel
  prevs := by decide +kernel

theorem test_example_inv_accel : StateInv (exampleState.setCtrl 1) :=
  have h := test_example_inv
  ⟨h.1, h.2, h.3, h.4, h.5, h.6, h.7, h.8, h.9, h.10, by decide, h.12, h.13, h.14, h.15⟩

theorem test_example_ready (src dst : Format) : RunReady exampleState src dst where
  dstStride := by decide +kernel
  srcStride := by decide +kernel
  buffers := (Laws.runBreach_none_iff ..).mp (by cases src <;> cases dst <;> decide +kernel)

theorem test_example_ready_accel (src dst : Format) : RunReady (exampleState.setCtrl 1) src dst where
  dstStride := by decide +kernel
  srcStride := by decide +kernel
  buffers := (Laws.runBreach_none_iff ..).mp (by cases src <;> cases dst <;> decide +kernel)

theorem test_example_zero_ready (f : Format) : ZeroReady (exampleState.setA2 3) f where
  stride := by decide +kernel
  buffer := (Laws.zeroBreach_none_iff ..).mp (by cases f <;> decide +kernel)

theorem test_example_zero_inv : StateInv (exampleState.setA2 3) :=
  have h := test_example_inv
  ⟨h.1, h.2, h.3, h.4, by decide +kernel, h.6, h.7, h.8, h.9, h.10, h.11, h.12, h.13, h.14, h.15⟩

/-- The reset state with one pending host action. -/
def pending (act : HostAction) : State := State.reset.setHost [act]

theorem test_witness_StepRunsIssuedCommand :
    (pending (.writeReg 0 0xFFFFFFFF00010F01)).host = .writeReg 0 0xFFFFFFFF00010F01 :: [] ∧
    decode ((0xFFFFFFFF00010F01#64).setWidth 32) = .command (.cvtF32I16Dc 1) ∧ WellFormed (.copyF32 255) := by decide

theorem test_witness_IllegalWordsAreR79AndChangeOnlyStatus :
    (pending (.writeReg 0 0x0000000B)).host = .writeReg 0 0x0000000B :: [] ∧ illegalByR79 ((0x0000000B#64).setWidth 32) :=
  ⟨rfl, .inr (.inl (.inr (by decide)))⟩

theorem test_witness_DecodeEncode : WellFormed (.cvtU8I8 255) ∧ WellFormed (.setctrl true) := by decide

theorem test_witness_EncodeDecode : decode 0x00FF0009 = .command (.vditherf 255) := by decide

theorem test_witness_StepKeepsInvariant : StateInv exampleState ∧ step exampleState = .next exampleState :=
  ⟨test_example_inv, rfl⟩

theorem test_witness_ResetEventValues : (pending .reset).host = .reset :: [] ∧ 3 < contexts (pending .reset) := by decide

theorem test_witness_FirstDitherAfterReset : 3 < 4 := by decide

theorem test_witness_HostReadsRegisterNumbers : 3 < contexts State.reset ∧ 16 + 4 * contexts State.reset ≤ 32 := by decide

/-- Numbers 1 and 5, and 6, the first number a write to which is ignored. -/
theorem test_witness_HostWritesOperandRegisters : ∀ n ∈ [1, 5, 6],
    (pending (.writeReg n 0x1FFFFFFFF)).host = .writeReg n 0x1FFFFFFFF :: [] ∧ 0 < n := by decide

/-- A write that ends at the top of memory, and one that goes a byte beyond it. -/
theorem test_witness_HostMemoryWrites :
    Memory.wf (pending (.writeMem 0xFFFFFFFE [1, 2])).mem ∧
    0xFFFFFFFE + [1, 2].length ≤ 2 ^ (pending (.writeMem 0xFFFFFFFE [1, 2])).params.addrBits.toNat ∧
    2 ^ (pending (.writeMem 0xFFFFFFFF [1, 2])).params.addrBits.toNat < 0xFFFFFFFF + [1, 2].length := by decide

theorem test_witness_IdleBlockKeepsItsState : State.reset.host = [] := rfl

theorem test_witness_CommandsKeepOperandRegisters :
    exec (.setctrl true) State.reset = .next ((State.reset.setCtrl 1).setStatus 0) := rfl

/-- A command without a result, one with each sentinel, and an illegal word. -/
theorem test_witness_FailingCommandsChangeOnlyStatus :
    exec (.dinit 4) State.reset = .next (State.reset.setStatus 4) ∧ (State.reset.setStatus 4).status ≠ 0 ∧
    exec .selfmt State.reset = .next ((State.reset.setResult0 0).setStatus 1) ∧
    exec (.resolve false false) State.reset = .next ((State.reset.setResult0 0xFFFFFFFF).setStatus 1) ∧
    ∃ why, decode State.reset.w = .illegal why := ⟨rfl, by decide, rfl, rfl, _, rfl⟩

theorem test_witness_DinitResult : 3 < contexts State.reset ∧ contexts State.reset ≤ 4 ∧
    State.reset.params = Config.defaultParams := by decide

theorem test_witness_OnlyRunAndZeroReachMemory :
    exec (.setctrl true) State.reset = .next ((State.reset.setCtrl 1).setStatus 0) ∧
    (encode (.setctrl true)).toNat % 2 ^ 8 ≠ 1 ∧ (encode (.setctrl true)).toNat % 2 ^ 8 ≠ 2 := ⟨rfl, by decide, by decide⟩

/-- A command that sets context 3, seen at context 2, and a plain RUN with DCTX = 0, seen at context 0. -/
theorem test_witness_CommandsTouchOneContext :
    (∃ t, exec (.dinit 3) exampleState = .next t ∧ ∀ k, StepsContext (.dinit 3) k → 2 ≠ k) ∧
    ∃ t, exec (.copyI16 0) (exampleState.setA4 0) = .next t ∧ ∀ k, StepsContext (.copyI16 0) k → 0 ≠ k := by
  refine ⟨⟨_, rfl, ?_⟩, ⟨_, rfl, ?_⟩⟩ <;>
    simp [StepsContext, ditheringRows, ditheredNarrowings, fromFloats]

/-- The greatest pattern of a three-byte element, its last byte, and a neighbour on each side. -/
theorem test_witness_LoadAfterStore : Memory.wf exampleState.mem ∧ (0xFFFFFF#32).toNat < 2 ^ sampleBits .i24 ∧
    2 < elemSize .i24 ∧ 0x0FFF + elemSize .u8 ≤ 0x1000 ∧ 0x1000 + elemSize .i24 ≤ 0x1003 := by decide +kernel

theorem test_witness_PackAndUnpack24 : Memory.wf exampleState.mem := test_example_inv.memory

theorem test_witness_dither_commands : 0 < contexts exampleState ∧ 3 < contexts exampleState := by decide

/-- Both ends of the range of R104. -/
theorem test_witness_DitherRanges : PrevInRange (BitVec.ofInt 32 (-16384)) ∧ PrevInRange 16382 := by decide

theorem test_witness_MissingContextIsBadOperand : contexts exampleState ≤ 4 ∧ contexts exampleState ≤ 255 := by decide

/-- Int16 requested: available; not available with Float32 and Int32 better; only worse ones; none. -/
theorem test_witness_SelfmtResult :
    Names ((State.reset.setA1 0x80000008).a1) .i16 ∧
    Available (State.reset.setA0 0x08).a0 (ordinal .i16) ∧
    (¬ Available (State.reset.setA0 0x23).a0 (ordinal .i16) ∧ 1 < ordinal .i16 ∧ Available (State.reset.setA0 0x23).a0 1) ∧
    (¬ Available (State.reset.setA0 0x30).a0 (ordinal .i16) ∧
      (∀ j < ordinal .i16, ¬ Available (State.reset.setA0 0x30).a0 j) ∧ Available (State.reset.setA0 0x30).a0 5) ∧
    ∀ k, ¬ Available (State.reset.setA0 0xFFFFFFC0).a0 k := by
  refine ⟨by decide, by decide +kernel, by decide +kernel, by decide +kernel, fun k h => ?_⟩
  obtain ⟨h1, h2⟩ := h
  interval_cases k <;> exact absurd h2 (by decide +kernel)

theorem test_witness_SelfmtResult_best : ({ State.reset with
    params := { Config.defaultParams with fallbackUp := .best } } : State).params.fallbackUp = .best := rfl

/-- No bit, two format bits, and a reserved bit. -/
theorem test_witness_SelfmtResult_no_format : ∀ a ∈ [0x80000000#64, 0x18, 0x40], NamesNone a := by
  intro a ha f hf
  simp only [List.mem_cons, List.not_mem_nil, or_false] at ha
  rcases ha with rfl | rfl | rfl <;> cases f <;> revert hf <;> decide

theorem test_witness_ResolveFollowsTheRegistryTable : Names 0x80000001 .f32 ∧ Names 0x20 .u8 := by decide

theorem test_witness_ResolveNoFormat :
    NamesNone (State.reset.setA1 1).a0 ∧ Names (State.reset.setA0 1).a0 .f32 ∧ NamesNone (State.reset.setA0 1).a1 := by
  refine ⟨fun f hf => ?_, by decide, fun f hf => ?_⟩ <;> cases f <;> revert hf <;> decide

theorem test_witness_UnityPathIsCopy : ∀ r ∈ copies,
    Names (BitVec.ofNat 64 (2 ^ ordinal r.src)) r.src ∧ 255 < 256 := by decide

theorem test_witness_ZeroStrideIsBadOperand :
    ((exampleState.setA1 0).a1 = 0 ∨ (exampleState.setA1 0).a3 = 0) ∧
    ((exampleState.setA3 0).a1 = 0 ∨ (exampleState.setA3 0).a3 = 0) := by decide

/-- A misaligned destination, and views that overlap: the contract does not hold. -/
theorem test_witness_BrokenBuffersAreRefused :
    ((exampleState.setA0 0x2001).a1 ≠ 0 ∧ (exampleState.setA0 0x2001).a3 ≠ 0 ∧ (exampleState.setA0 0x2001).a4.toNat ≠ 0 ∧
      (exampleState.setA0 0x2001).a0.toNat % baseAlign .i16 ≠ 0 ∧ ¬ RunContract (exampleState.setA0 0x2001) .f32 .i16) ∧
    ((exampleState.setA0 0x1000).a0.toNat % baseAlign .i16 = 0 ∧ ¬ RunContract (exampleState.setA0 0x1000) .i32 .i16 ∧
      3 < contexts (exampleState.setA0 0x1000)) ∧
    ((exampleState.setA0 0x2002).a2.toNat ≠ 0 ∧ ¬ GoodView (exampleState.setA0 0x2002) .i32 0x2002 1 0x1000) := by
  have h : ∀ s src dst, s.a4.toNat ≠ 0 → runBreach src dst s ≠ none → ¬ RunContract s src dst :=
    fun s src dst _ h2 hc => h2 ((Laws.runBreach_none_iff ..).mpr (.inr hc))
  exact ⟨⟨by decide, by decide, by decide, by decide, h _ _ _ (by decide) (by decide +kernel)⟩,
    ⟨by decide, h _ _ _ (by decide) (by decide +kernel), by decide⟩, by decide,
    fun hg => absurd hg.aligned (by decide)⟩

theorem test_witness_CountZeroDoesNothing : 3 < contexts (exampleState.setA4 0) ∧ (exampleState.setA4 0).a1 ≠ 0 ∧
    (exampleState.setA4 0).a3 ≠ 0 ∧ (exampleState.setA4 0).a4 = 0 := by decide

/-- CopyRuns, PlainNarrowingRuns, WideningRuns, OffsetRuns, IntegerToFloatRuns. -/
theorem test_witness_plain_runs : StateInv exampleState ∧
    ∀ r ∈ copies ++ narrowings ++ widenings ++ offsets ++ toFloats, RunReady exampleState r.src r.dst :=
  ⟨test_example_inv, fun r _ => test_example_ready r.src r.dst⟩

theorem test_witness_DitheredNarrowingRuns : StateInv exampleState ∧ 3 < contexts exampleState ∧
    ∀ r ∈ ditheredNarrowings, RunReady exampleState r.src r.dst :=
  ⟨test_example_inv, by decide, fun r _ => test_example_ready r.src r.dst⟩

/-- The reference path is on, and a sample of the state converts to a value in range. -/
theorem test_witness_FloatToIntegerRuns : StateInv exampleState ∧ 3 < contexts exampleState ∧
    (∀ r ∈ fromFloats, RunReady exampleState r.src r.dst) ∧ accelOn exampleState = false ∧
    fval (elemAt exampleState .f32 (srcAddr exampleState .f32 0)) = .finite (1 / 2) :=
  ⟨test_example_inv, by decide, fun r _ => test_example_ready r.src r.dst, by decide, by decide +kernel⟩

/-- Four samples, all in the prefix; with A4 = 3 the sample 0 is after it. -/
theorem test_witness_AcceleratedRunsStayInTheBand : StateInv (exampleState.setCtrl 1) ∧ accelOn (exampleState.setCtrl 1) = true ∧
    3 < contexts (exampleState.setCtrl 1) ∧ (∀ r ∈ fromFloats, RunReady (exampleState.setCtrl 1) r.src r.dst) ∧
    3 < 4 * ((exampleState.setCtrl 1).a4.toNat / 4) ∧
    floatToFixed .i24 false false (elemAt (exampleState.setCtrl 1) .f32 (srcAddr (exampleState.setCtrl 1) .f32 0)) 0 =
      some 0x3FFFFF ∧
    4 * (((exampleState.setCtrl 1).setA4 3).a4.toNat / 4) ≤ 0 ∧ RunReady ((exampleState.setCtrl 1).setA4 3) .f32 .i24 :=
  ⟨test_example_inv_accel, by decide, by decide, fun r _ => test_example_ready_accel r.src r.dst, by decide,
    by decide +kernel, by decide, by decide +kernel, by decide +kernel,
    (Laws.runBreach_none_iff ..).mp (by decide +kernel)⟩

theorem test_witness_BandAdmitsEveryValue : (-1 : Int) ≤ 1 ∧ (1 : Int) - (-1) < 2 ^ 32 ∧ (0 : Int) ≤ 0 := by decide

theorem test_witness_ZeroFillRuns : StateInv (exampleState.setA2 3) ∧ ∀ z ∈ zeroFills, ZeroReady (exampleState.setA2 3) z.2.1 :=
  ⟨test_example_zero_inv, fun z _ => test_example_zero_ready z.2.1⟩

theorem test_witness_SetctrlResult : StateInv exampleState := test_example_inv

/-- Each kind of pattern: a NaN, an infinity, a subnormal, a normal. -/
theorem test_witness_ValueOfBinary32Pattern :
    fval 0x7FC00000 = .nan ∧ fval 0xFF800000 = .negInf ∧ fval 0x00000001 = .finite (1 / 2 ^ 149) ∧
    fval 0xBFC00000 = .finite (-3 / 2) ∧ fval 0x7F7FFFFF = .finite (16777215 * 2 ^ 104) := by decide +kernel

/-- A tie: 1/2 + 2^-25 lies half way between two patterns and goes to the even one. -/
theorem test_witness_RoundsToNearestEven :
    rne32 (1 / 2 + 1 / 2 ^ 25) = 0x3F000000 ∧ fval 0x3F000000 = .finite (1 / 2) ∧
    fval 0x3F000001 = .finite (1 / 2 + 1 / 2 ^ 24) ∧ (1 / 2 + 1 / 2 ^ 24 : ℚ) ≠ 1 / 2 ∧
    |(1 / 2 : ℚ) - (1 / 2 + 1 / 2 ^ 25)| = |(1 / 2 + 1 / 2 ^ 24 : ℚ) - (1 / 2 + 1 / 2 ^ 25)| ∧
    |(1 / 2 + 1 / 2 ^ 25 : ℚ)| ≤ 1 ∧ |(-1 : ℚ)| ≤ 1 ∧ rne32 (-1) = 0xBF800000 := by
  refine ⟨by decide +kernel, by decide +kernel, by decide +kernel, by norm_num, by norm_num, ?_, by norm_num, by decide +kernel⟩
  rw [abs_of_nonneg] <;> norm_num

theorem test_witness_NarrowIntegersConvertExactly : (24 ∈ [24, 16, 8]) ∧ (-2 ^ (24 - 1) : Int) ≤ -8388608 ∧
    (8388607 : Int) < 2 ^ (24 - 1) := by decide

/-- Full scale and the largest dither of either sign. -/
theorem test_witness_HeadroomHolds : Format.i24 ∈ [Format.i32, .i24, .i16, .i8, .u8] ∧ fval 0xBF800000 = .finite (-1) ∧
    |(-1 : ℚ)| ≤ 1 ∧ (-32766 : Int) ≤ -32766 ∧ (32766 : Int) ≤ 32766 :=
  ⟨by decide, by decide +kernel, by norm_num, le_refl _, le_refl _⟩

theorem test_witness_NarrowingUndoesWidening : (0xFFFFFF#32).toNat < 2 ^ sampleBits .i24 ∧ (0xFF#32).toNat < 2 ^ 8 := by decide

theorem test_witness_SilenceStaysSilence : ∃ r ∈ fromFloats, r.dither = false := by decide

theorem test_witness_RoundTripWithinTwoToMinusThirty :
    fval 0x3F7D70A3 = .finite (16609443 / 2 ^ 24) ∧ |(16609443 / 2 ^ 24 : ℚ)| ≤ 99 / 100 := by
  refine ⟨by decide +kernel, ?_⟩
  rw [abs_of_nonneg] <;> norm_num

end Sys2Proof.Tests
end

