-- ==== Sys2Proof/Proofs/Scope.lean ====
section
/-! The numbers of R9: the value of every binary32 pattern, and `rne32` as rounding to nearest, ties to even. -/

namespace Sys2Proof.Proofs.Scope

open Sys2Proof.Machine Sys2Proof.Laws

/-! ## The value of a pattern by its fields -/

/-- A pattern is its sign, exponent field and fraction field side by side (R9). -/
theorem toNat_eq_fields (b : Word) :
    b.toNat = (signBit b).toNat * 2 ^ 31 + (exponentField b * 2 ^ 23 + fractionField b) := by
  have hb := b.isLt
  rw [signBit_eq, exponentField_eq, fractionField_eq]
  by_cases hs : 2 ^ 31 ≤ b.toNat
  · simp only [hs, decide_true, Bool.toNat_true]
    omega
  · simp only [hs, decide_false, Bool.toNat_false]
    omega

theorem fractionField_lt (b : Word) : fractionField b < 2 ^ 23 := by
  rw [fractionField_eq]
  exact Nat.mod_lt _ (by positivity)

theorem exponentField_le (b : Word) : exponentField b ≤ 255 := by
  rw [exponentField_eq]
  omega

theorem fval_nan {b : Word} (he : exponentField b = 255) (hf : fractionField b ≠ 0) : fval b = .nan := by
  simp [fval, he, hf]

theorem fval_inf {b : Word} (he : exponentField b = 255) (hf : fractionField b = 0) :
    fval b = if signBit b then .negInf else .posInf := by
  simp [fval, he, hf]

theorem fval_subnormal {b : Word} (he : exponentField b = 0) :
    fval b = .finite (withSign (signBit b) (fractionField b * 2 ^ (-149 : ℤ))) := by
  have hf := fractionField_lt b
  simpa using fval_assembled (signBit b) (e := 0) (n := fractionField b) (by omega) (.inl rfl) (by omega)
    (by rw [toNat_eq_fields b, he])

/-- The leading 1 of a normal pattern's significand is the lowest bit of its exponent field. -/
theorem fval_normal {b : Word} (h0 : exponentField b ≠ 0) (h255 : exponentField b ≠ 255) :
    fval b = .finite (withSign (signBit b)
      (((2 ^ 23 + fractionField b : ℕ) : ℚ) * 2 ^ ((exponentField b : ℤ) - 150))) := by
  have hf := fractionField_lt b
  have hle := exponentField_le b
  obtain ⟨e, he⟩ : ∃ e, exponentField b = e + 1 := ⟨exponentField b - 1, by omega⟩
  have hexp : (exponentField b : ℤ) - 150 = (e : ℤ) - 149 := by omega
  rw [hexp]
  exact fval_assembled (signBit b) (by omega) (.inr (by omega)) (by omega)
    (by rw [toNat_eq_fields b, he]; ring)

theorem withSign_eq_mul (negative : Bool) (q : ℚ) : withSign negative q = (if negative then -1 else 1) * q := by
  cases negative <;> simp [withSign]

/-- Settles O51: one case for each kind of pattern, a NaN, an infinity, a subnormal, a normal. -/
theorem valueOfBinary32Pattern : Obligations.ValueOfBinary32Pattern := by
  intro b
  simp only [← exponentField_eq, ← fractionField_eq]
  refine ⟨fval_nan, fval_inf, fun he => ?_, fun h0 h255 => ?_⟩
  · rw [fval_subnormal he, withSign_eq_mul, mul_assoc]
    rfl
  · rw [fval_normal h0.ne' h255.ne, withSign_eq_mul, mul_assoc]
    push_cast
    rfl

/-! ## Finite values on the grid of a binade -/

/-- A rational that is a signed 24-bit significand at an exponent not below that of the subnormals (R9). -/
def HasSignificand (x : ℚ) : Prop := ∃ (m : ℤ) (e : ℕ), |m| < 2 ^ 24 ∧ x = m * 2 ^ ((e : ℤ) - 149)

theorem HasSignificand.neg {x : ℚ} (h : HasSignificand x) : HasSignificand (-x) := by
  obtain ⟨m, e, hm, rfl⟩ := h
  exact ⟨-m, e, by rwa [abs_neg], by push_cast; ring⟩

theorem hasSignificand_withSign (negative : Bool) {n : ℕ} (hn : n < 2 ^ 24) (e : ℕ) :
    HasSignificand (withSign negative (n * 2 ^ ((e : ℤ) - 149))) := by
  have h : HasSignificand (n * 2 ^ ((e : ℤ) - 149)) := ⟨n, e, by rw [Nat.abs_cast]; exact_mod_cast hn, by simp⟩
  cases negative
  · exact h
  · exact h.neg

/-- Every finite value of a pattern has a significand of 24 bits. -/
theorem hasSignificand_of_fval {p : Word} {x : ℚ} (h : fval p = .finite x) : HasSignificand x := by
  have hf := fractionField_lt p
  by_cases h255 : exponentField p = 255
  · by_cases h0 : fractionField p = 0
    · rw [fval_inf h255 h0] at h
      split at h <;> cases h
    · rw [fval_nan h255 h0] at h
      cases h
  · by_cases h0 : exponentField p = 0
    · obtain rfl := FloatValue.finite.inj ((fval_subnormal h0).symm.trans h)
      exact hasSignificand_withSign (signBit p) (by omega) 0
    · obtain rfl := FloatValue.finite.inj ((fval_normal h0 h255).symm.trans h)
      obtain ⟨e, he⟩ : ∃ e, exponentField p = e + 1 := ⟨exponentField p - 1, by omega⟩
      have hexp : (exponentField p : ℤ) - 150 = (e : ℤ) - 149 := by omega
      rw [hexp]
      exact hasSignificand_withSign (signBit p) (by omega) e

/-- In units of the last place of the binade `e`, a finite value is an integer, or lies below the binade, whose least
significand is 2^23. -/
theorem HasSignificand.integer_or_small {x : ℚ} (h : HasSignificand x) (e : ℕ) :
    (∃ k : ℤ, x * 2 ^ (149 - (e : ℤ)) = k) ∨ e ≠ 0 ∧ x * 2 ^ (149 - (e : ℤ)) < 2 ^ 23 := by
  obtain ⟨m, e', hm, rfl⟩ := h
  have hscale : (m : ℚ) * 2 ^ ((e' : ℤ) - 149) * 2 ^ (149 - (e : ℤ)) = m * 2 ^ ((e' : ℤ) - e) := by
    rw [mul_assoc, ← zpow_add₀ (by norm_num)]
    congr 2
    omega
  rw [hscale]
  by_cases hle : e ≤ e'
  · left
    refine ⟨m * 2 ^ (e' - e), ?_⟩
    rw [show (e' : ℤ) - e = ((e' - e : ℕ) : ℤ) by omega, zpow_natCast]
    push_cast
    rfl
  · right
    have hm' : (m : ℚ) ≤ |(m : ℚ)| := le_abs_self _
    have habs : |(m : ℚ)| < 2 ^ 24 := by exact_mod_cast hm
    have hpos : (0 : ℚ) < 2 ^ ((e' : ℤ) - e) := by positivity
    have hhalf : (2 : ℚ) ^ ((e' : ℤ) - e) ≤ 2 ^ (-1 : ℤ) := zpow_le_zpow_right₀ (by norm_num) (by omega)
    refine ⟨by omega, ?_⟩
    calc (m : ℚ) * 2 ^ ((e' : ℤ) - e) ≤ |(m : ℚ)| * 2 ^ ((e' : ℤ) - e) := mul_le_mul_of_nonneg_right hm' hpos.le
      _ < 2 ^ 24 * 2 ^ ((e' : ℤ) - e) := mul_lt_mul_of_pos_right habs hpos
      _ ≤ 2 ^ 24 * 2 ^ (-1 : ℤ) := by gcongr
      _ = 2 ^ 23 := by norm_num

/-! ## Rounding to nearest -/

/-- No integer is nearer than the rounded one, and the rounded one is even when another is as near. -/
theorem roundHalfEven_nearest_integer {s : ℚ} (hs : 0 ≤ s) (k : ℤ) :
    |(roundHalfEven s : ℚ) - s| ≤ |(k : ℚ) - s| ∧
    ((k : ℚ) ≠ roundHalfEven s → |(roundHalfEven s : ℚ) - s| = |(k : ℚ) - s| → roundHalfEven s % 2 = 0) := by
  obtain ⟨hhalf, htie⟩ := roundHalfEven_spec hs
  generalize roundHalfEven s = n at *
  by_cases hk : (k : ℚ) = n
  · exact ⟨by rw [hk], fun hne => absurd hk hne⟩
  · have hdist : (1 : ℚ) ≤ |(k : ℚ) - n| := by
      have hne : k - n ≠ 0 := fun h0 => hk (by exact_mod_cast sub_eq_zero.mp h0)
      exact_mod_cast Int.one_le_abs hne
    have htri : |(k : ℚ) - n| ≤ |(k : ℚ) - s| + |(n : ℚ) - s| := by
      rw [abs_sub_comm (n : ℚ) s]
      exact abs_sub_le _ _ _
    exact ⟨by linarith, fun _ heq => htie (by linarith)⟩

/-- The same among finite values, in units of the last place: a value below the binade of `s` is farther from `s` than the
least integer of the binade is. -/
theorem roundHalfEven_nearest_value {s y : ℚ} {e : ℕ} (hs : 0 ≤ s) (hbinade : e = 0 ∨ 2 ^ 23 ≤ s)
    (hy : (∃ k : ℤ, y = k) ∨ e ≠ 0 ∧ y < 2 ^ 23) :
    |(roundHalfEven s : ℚ) - s| ≤ |y - s| ∧
    (y ≠ roundHalfEven s → |(roundHalfEven s : ℚ) - s| = |y - s| → roundHalfEven s % 2 = 0) := by
  rcases hy with ⟨k, rfl⟩ | ⟨he, hsmall⟩
  · exact roundHalfEven_nearest_integer hs k
  · have hle : 2 ^ 23 ≤ s := hbinade.resolve_left he
    obtain ⟨hnear, -⟩ := roundHalfEven_nearest_integer hs (2 ^ 23)
    have hbase : |(((2 : ℤ) ^ 23 : ℤ) : ℚ) - s| = s - 2 ^ 23 := by
      rw [abs_sub_comm, abs_of_nonneg] <;> push_cast <;> linarith
    have hfar : |y - s| = s - y := by rw [abs_sub_comm, abs_of_nonneg (by linarith)]
    have hlt : |(roundHalfEven s : ℚ) - s| < |y - s| := by linarith
    exact ⟨hlt.le, fun _ heq => absurd heq hlt.ne⟩

/-- What R9 asks of the value `g` with significand `n` that a rational `q` rounds to: no finite value is nearer, and `n` is
even when another is as near. -/
def NearestEven (q g : ℚ) (n : ℕ) : Prop :=
  ∀ x, HasSignificand x → |g - q| ≤ |x - q| ∧ (x ≠ g → |g - q| = |x - q| → n % 2 = 0)

theorem NearestEven.neg {q g : ℚ} {n : ℕ} (h : NearestEven q g n) : NearestEven (-q) (-g) n := by
  have hflip : ∀ a : ℚ, |a - -q| = |-a - q| := fun a => by rw [← abs_neg]; congr 1; ring
  intro x hx
  obtain ⟨hnear, heven⟩ := h (-x) hx.neg
  rw [hflip, hflip, neg_neg]
  exact ⟨hnear, fun hne => heven fun h => hne (by rw [← h, neg_neg])⟩

/-- The significand rounded in units of the last place of the binade of `q` gives the value nearest to `q`. -/
theorem nearestEven_of_binade {q : ℚ} (hq : 0 < q) {e : ℕ} (hbinade : e = 0 ∨ 2 ^ 23 ≤ q * 2 ^ (149 - (e : ℤ))) :
    NearestEven q (roundHalfEven (q * 2 ^ (149 - (e : ℤ))) * 2 ^ ((e : ℤ) - 149))
      (roundHalfEven (q * 2 ^ (149 - (e : ℤ)))) := by
  intro x hx
  have hunit : (0 : ℚ) < 2 ^ ((e : ℤ) - 149) := by positivity
  have hcancel : ∀ a : ℚ, a * 2 ^ (149 - (e : ℤ)) * 2 ^ ((e : ℤ) - 149) = a := fun a => by
    rw [mul_assoc, ← zpow_add₀ (by norm_num), show 149 - (e : ℤ) + ((e : ℤ) - 149) = 0 by ring, zpow_zero, mul_one]
  have hdist : ∀ a : ℚ, |a * 2 ^ ((e : ℤ) - 149) - q| = |a - q * 2 ^ (149 - (e : ℤ))| * 2 ^ ((e : ℤ) - 149) := fun a => by
    rw [← abs_of_pos hunit, ← abs_mul, abs_of_pos hunit, sub_mul, hcancel]
  obtain ⟨hnear, heven⟩ := roundHalfEven_nearest_value (by positivity) hbinade (hx.integer_or_small e)
  rw [← hcancel x, hdist, hdist]
  exact ⟨mul_le_mul_of_nonneg_right hnear hunit.le,
    fun hne heq => heven (fun h => hne (by rw [h])) (mul_right_cancel₀ hunit.ne' heq)⟩

/-- A rational up to 1 other than 0 goes to the pattern of its sign and rounded magnitude, whose value is nearest to it. -/
theorem rne32_spec {q : ℚ} (h : |q| ≤ 1) (h0 : q ≠ 0) :
    ∃ e n : ℕ, (rne32 q).toNat = (decide (q < 0)).toNat * 2 ^ 31 + (e * 2 ^ 23 + n) ∧ e * 2 ^ 23 + n < 2 ^ 31 ∧
      fval (rne32 q) = .finite (withSign (decide (q < 0)) (n * 2 ^ ((e : ℤ) - 149))) ∧
      NearestEven q (withSign (decide (q < 0)) (n * 2 ^ ((e : ℤ) - 149))) n := by
  have hpos := abs_pos.mpr h0
  obtain ⟨e, n, hpattern, hn, hnormal, hle, hround, hbinade, -⟩ := magnitudePattern_spec hpos h
  have hnat := rne32_toNat h h0
  rw [hpattern] at hnat
  refine ⟨e, n, hnat, by omega, fval_assembled _ hn hnormal (by omega) hnat, ?_⟩
  have hnearest := nearestEven_of_binade hpos hbinade
  rw [← hround] at hnearest
  by_cases hneg : q < 0
  · have hmirror := hnearest.neg
    rw [abs_of_neg hneg, neg_neg] at hmirror
    simpa [withSign, hneg] using hmirror
  · rw [abs_of_nonneg (not_lt.mp hneg)] at hnearest
    simpa [withSign, hneg] using hnearest

theorem getLsbD_31_of_toNat {b : Word} {negative : Bool} {m : ℕ} (hb : b.toNat = negative.toNat * 2 ^ 31 + m)
    (hm : m < 2 ^ 31) : b.getLsbD 31 = negative := by
  change signBit b = negative
  rw [signBit_eq, hb]
  cases negative
  · simpa using hm
  · simp

/-- Settles O52: 0 goes to +0, and every other rational to its rounded magnitude with its sign. -/
theorem roundsToNearestEven : Obligations.RoundsToNearestEven := by
  intro q hq
  by_cases h0 : q = 0
  · have hzero : rne32 q = 0 := by rw [rne32, if_pos h0]
    have hval : fval 0 = .finite 0 := by decide +kernel
    rw [hzero, h0]
    exact ⟨0, hval, fun p x _ => by simp, fun _ _ _ _ _ => by decide, by simp⟩
  · obtain ⟨e, n, hnat, hlt, hval, hnearest⟩ := rne32_spec hq h0
    refine ⟨_, hval, fun p x hx => ?_, fun p x hx hne heq => ?_, ?_⟩
    · exact (hnearest x (hasSignificand_of_fval hx)).1
    · have heven := (hnearest x (hasSignificand_of_fval hx)).2 hne heq
      omega
    · rw [getLsbD_31_of_toNat hnat hlt, decide_eq_true_iff]

end Sys2Proof.Proofs.Scope
end

