-- ==== Sys2Proof/Proofs/MachineState.lean ====
section
/-! The state as a whole: what a command, a host action and a step leave unchanged, and the invariant that every step keeps. -/

namespace Sys2Proof.Proofs.MachineState

open Sys2Proof.Machine Sys2Proof.Laws Sys2Proof.Claims

/-! ## What a step does with the queue -/

theorem step_idle {s : State} (h : s.host = []) : step s = .next s := by
  rw [step, takeHostAction, h]

theorem step_action {s : State} {act : HostAction} {rest : List HostAction} (h : s.host = act :: rest) :
    step s = performHost act (s.setHost rest) := by
  rw [step, takeHostAction, h]

/-! ## Dither commands and the commands without buffers or contexts -/

/-- The five commands that step or set context k directly (R105 to R109). -/
def ditherCommands (k : Nat) : List Instr := [.dinit k, .dither16 k, .ditherf k, .vdither16 k, .vditherf k]

theorem stepsContext_of_ditherCommand {i : Instr} {k : Nat} (h : i ∈ ditherCommands k) : StepsContext i k := .inl h

/-- `IsDither` says no more than that the command is one of the five on its context. -/
theorem ditherCommand_of_isDither {i : Instr} {k : Nat} (h : IsDither i) (hk : dctxOf i = some k) :
    i ∈ ditherCommands k := by
  obtain ⟨hopc, -⟩ := h
  cases i
  case dinit | dither16 | ditherf | vdither16 | vditherf => simpa [ditherCommands, dctxOf] using hk
  case setctrl => simp [dctxOf] at hk
  all_goals simp [encode] at hopc

/-- What a dither command on context k may change: that context, the RESULT registers and STATUS (R105 to R109, R306). -/
def DitherNext (k : Nat) (s t : State) : Prop :=
  ∃ c r0 r1 r2 r3 code,
    t = (((((s.setDs (s.ds.set k c)).setResult0 r0).setResult1 r1).setResult2 r2).setResult3 r3).setStatus (codeWord code)

theorem ditherNext_raise (k : Nat) (s : State) (code : Code) : DitherNext k s (raise code s) :=
  ⟨contextAt s k, s.result0, s.result1, s.result2, s.result3, code, by rw [ds_set_contextAt]; rfl⟩

theorem isDither_next {i : Instr} {s t : State} (hi : IsDither i) (h : exec i s = .next t) :
    ∃ k, dctxOf i = some k ∧ DitherNext k s t := by
  obtain ⟨-, k, effect, hk, hexec, heffect⟩ := hi
  refine ⟨k, hk, ?_⟩
  rw [hexec] at h
  rcases onContext_cases k s effect with ⟨-, e⟩ | ⟨-, e⟩ <;>
    obtain rfl := Host.Outcome.next.inj (e.symm.trans h)
  · exact ditherNext_raise k s .badOperand
  · obtain ⟨c, r0, r1, r2, r3, he⟩ := heffect s
    exact ⟨c, r0, r1, r2, r3, .ok, by rw [he]; rfl⟩

/-- A command that is none of RUN, ZERO and the dither commands. -/
def IsRegisterCommand (i : Instr) : Prop := (∃ c d, i = .resolve c d) ∨ i = .selfmt ∨ ∃ a, i = .setctrl a

/-- Everything RESOLVE, SELFMT and SETCTRL may change: RESULT0, STATUS and, for SETCTRL, CTRL (R121, R133, R280). -/
theorem registerCommand_next {i : Instr} {s t : State} (hi : IsRegisterCommand i) (h : exec i s = .next t) :
    ∃ ctrl r0 code, t = ((s.setCtrl ctrl).setResult0 r0).setStatus (codeWord code) ∧
      (ctrl = s.ctrl ∨ ∃ a, i = .setctrl a ∧ ctrl = withAccel s.ctrl a) := by
  rcases hi with ⟨c, d, rfl⟩ | rfl | ⟨a, rfl⟩
  · rw [exec_resolve] at h
    rcases execResolve_cases c d s with ⟨id, e⟩ | e | e <;>
      obtain rfl := Host.Outcome.next.inj (e.symm.trans h)
    · exact ⟨s.ctrl, _, .ok, rfl, .inl rfl⟩
    · exact ⟨s.ctrl, _, .notImplemented, rfl, .inl rfl⟩
    · exact ⟨s.ctrl, _, .notSupported, rfl, .inl rfl⟩
  · rw [exec_selfmt] at h
    rcases execSelfmt_cases s with ⟨k, e⟩ | e <;> obtain rfl := Host.Outcome.next.inj (e.symm.trans h)
    · exact ⟨s.ctrl, _, .ok, rfl, .inl rfl⟩
    · exact ⟨s.ctrl, _, .notSupported, rfl, .inl rfl⟩
  · rw [exec_setctrl] at h
    obtain rfl := Host.Outcome.next.inj h
    exact ⟨withAccel s.ctrl a, s.result0, .ok, rfl, .inr ⟨a, rfl, rfl⟩⟩

/-! ## The registers no command writes -/

theorem sameRegisters_refl (s : State) : SameRegisters s s := ⟨rfl, rfl, rfl, rfl, rfl, rfl, rfl, rfl, rfl, rfl⟩

theorem sameRegisters_setStatus {s t : State} (h : SameRegisters s t) (v : Word) : SameRegisters s (t.setStatus v) :=
  { h with }

theorem runConverter_sameRegisters {c : Converter} {k : Nat} {s t : State} (h : runConverter c k s = .next t) :
    SameRegisters s t := by
  rcases runConverter_next h with (rfl | rfl) | ⟨u, hu, rfl⟩
  · exact sameRegisters_setStatus (sameRegisters_refl s) _
  · exact sameRegisters_setStatus (sameRegisters_refl s) _
  · exact sameRegisters_setStatus hu.registers _

theorem runZero_sameRegisters {f : Format} {p : Word} {s t : State} (h : runZero f p s = .next t) :
    SameRegisters s t := by
  rcases runZero_next h with rfl | ⟨u, hu, rfl⟩
  · exact sameRegisters_setStatus (sameRegisters_refl s) _
  · exact sameRegisters_setStatus hu.registers _

theorem ditherNext_sameRegisters {k : Nat} {s t : State} (h : DitherNext k s t) : SameRegisters s t := by
  obtain ⟨c, r0, r1, r2, r3, code, rfl⟩ := h
  constructor <;> simp

/-- Every command but SETCTRL keeps the operand registers, CTRL and the host's side (R21, R22, R33, R280). -/
theorem exec_sameRegisters {i : Instr} {s t : State} (hi : ∀ a, i ≠ .setctrl a) (h : exec i s = .next t) :
    SameRegisters s t := by
  rcases exec_shape i with ⟨-, k, c, -, hrun⟩ | ⟨-, -, f, hzero⟩ | hdither | hreg
  · exact runConverter_sameRegisters ((hrun s).symm.trans h)
  · exact runZero_sameRegisters ((hzero s).symm.trans h)
  · obtain ⟨k, -, hnext⟩ := isDither_next hdither h
    exact ditherNext_sameRegisters hnext
  · obtain ⟨ctrl, r0, code, rfl, rfl | ⟨a, ha, -⟩⟩ := registerCommand_next hreg h
    · constructor <;> simp
    · exact absurd ha (hi a)

/-- Settles O15: SETCTRL changes CTRL and STATUS, every other command keeps `SameRegisters`. -/
theorem commandsKeepOperandRegisters : Obligations.CommandsKeepOperandRegisters := by
  intro i s t h
  by_cases hset : ∃ a, i = .setctrl a
  · obtain ⟨a, rfl⟩ := hset
    rw [exec_setctrl] at h
    obtain rfl := Host.Outcome.next.inj h
    exact ⟨rfl, rfl, rfl, rfl, rfl, rfl, rfl, rfl, rfl, fun hne => absurd rfl (hne a)⟩
  · have hr := exec_sameRegisters (fun a ha => hset ⟨a, ha⟩) h
    exact ⟨hr.w, hr.a0, hr.a1, hr.a2, hr.a3, hr.a4, hr.params, hr.alloc, hr.host, fun _ => hr.ctrl⟩

/-! ## Memory -/

theorem opcField_eq (w : Word) : opcField w = w.toNat % 2 ^ 8 := by
  simp [opcField, BitVec.extractLsb'_toNat]

/-- Settles O17: the dither commands and the three others write no memory, draw counter or working register. -/
theorem onlyRunAndZeroReachMemory : Obligations.OnlyRunAndZeroReachMemory := by
  intro i s t h hrun hzero
  rw [← opcField_eq] at hrun hzero
  rcases exec_shape i with ⟨hopc, -⟩ | ⟨hopc, -⟩ | hdither | hreg
  · exact absurd hopc hrun
  · exact absurd hopc hzero
  · obtain ⟨k, -, c, r0, r1, r2, r3, code, rfl⟩ := isDither_next hdither h
    simp
  · obtain ⟨ctrl, r0, code, rfl, -⟩ := registerCommand_next hreg h
    simp

/-! ## Contexts -/

theorem ditherNext_contexts {k : Nat} {s t : State} (h : DitherNext k s t) :
    t.ds.length = s.ds.length ∧ ∀ j, j ≠ k → t.ds[j]? = s.ds[j]? := by
  obtain ⟨c, r0, r1, r2, r3, code, rfl⟩ := h
  exact ⟨by simp, fun j hj => by simpa using List.getElem?_set_ne (Ne.symm hj)⟩

theorem runZero_ds {f : Format} {p : Word} {s t : State} (h : runZero f p s = .next t) : t.ds = s.ds := by
  rcases runZero_next h with rfl | ⟨u, hu, rfl⟩
  · rfl
  · exact hu.contexts

/-- A RUN runs one converter on its context, and a RUN on an implemented converter whose D bit is 1 steps that context: the
rows of `ditheringRows` are all there are (R77, R154). -/
theorem run_stepsContext {i : Instr} (hi : opcField (encode i) = 1) :
    ∃ k c, (∀ s, exec i s = runConverter c k s) ∧
      (c.dither = true → (c.src, c.dst) ∉ Config.unimpl → StepsContext i k) := by
  cases i
  case zeroF32 | zeroI32 | zeroI24 | zeroI16 | zeroI8 | zeroU8 | resolve | selfmt | dinit | dither16 | ditherf |
      vdither16 | vditherf | setctrl =>
    simp [encode] at hi
  all_goals simp only [exec]
  case cvtF32I32D | cvtF32I32Dc | cvtF32I24D | cvtF32I24Dc | cvtF32I16D | cvtF32I16Dc | cvtF32I8D | cvtF32I8Dc |
      cvtF32U8D | cvtF32U8Dc | cvtI32I16D | cvtI32I8D | cvtI24I16D =>
    exact ⟨_, _, fun _ => rfl, fun _ _ => by simp [StepsContext, ditheringRows, ditheredNarrowings, fromFloats]⟩
  case cvtI32I24D | cvtI32U8D | cvtI24I8D | cvtI24U8D | cvtI16I8D | cvtI16U8D =>
    exact ⟨_, _, fun _ => rfl, fun _ himpl => absurd (by decide) himpl⟩
  all_goals exact ⟨_, _, fun _ => rfl, nofun⟩

/-- Settles O18: a RUN by its converter's D bit, a dither command by its one context; the others touch none. -/
theorem commandsTouchOneContext : Obligations.CommandsTouchOneContext := by
  intro i s t h
  rcases exec_shape i with ⟨hopc, -⟩ | ⟨-, -, f, hzero⟩ | hdither | hreg
  · obtain ⟨k, c, hrun, hsteps⟩ := run_stepsContext hopc
    obtain ⟨hlen, hothers⟩ := runConverter_contexts ((hrun s).symm.trans h)
    exact ⟨hlen, fun j hj => hothers j fun hd himpl => hj k (hsteps hd himpl)⟩
  · have hds : t.ds = s.ds := runZero_ds ((hzero s).symm.trans h)
    exact ⟨by rw [hds], fun j _ => by rw [hds]⟩
  · obtain ⟨k, hk, hnext⟩ := isDither_next hdither h
    obtain ⟨hlen, hothers⟩ := ditherNext_contexts hnext
    exact ⟨hlen, fun j hj => hothers j (hj k (stepsContext_of_ditherCommand (ditherCommand_of_isDither hdither hk)))⟩
  · obtain ⟨ctrl, r0, code, rfl, -⟩ := registerCommand_next hreg h
    simp

/-! ## Host writes and reads -/

/-- Writing operand register n cuts the value to ADDR_BITS bits, and a number above 5 is ignored (R22, R32; log 3). -/
theorem hostWrite_operand {n : Nat} (hn : 0 < n) (v : BitVec 64) (s : State) :
    hostWrite n v s = .next { s with
      a0 := if n = 1 then truncAddr s.params v.toNat else s.a0
      a1 := if n = 2 then truncAddr s.params v.toNat else s.a1
      a2 := if n = 3 then truncAddr s.params v.toNat else s.a2
      a3 := if n = 4 then truncAddr s.params v.toNat else s.a3
      a4 := if n = 5 then truncAddr s.params v.toNat else s.a4 } :=
  match n with
  | 1 | 2 | 3 | 4 | 5 => rfl
  | n + 6 => by simp [hostWrite]

/-- Settles O12: the state is the one `hostWrite_operand` gives, register by register. -/
theorem hostWritesOperandRegisters : Obligations.HostWritesOperandRegisters := by
  intro s n v rest hhost hn
  have hvalue : (truncAddr s.params v.toNat).toNat = v.toNat % 2 ^ s.params.addrBits.toNat := truncAddr_toNat _ _
  have hset (k : Nat) (a : Addr) : (if n = k then truncAddr s.params v.toNat else a).toNat =
      if n = k then v.toNat % 2 ^ s.params.addrBits.toNat else a.toNat := by rw [← hvalue]; exact apply_ite _ _ _ _
  rw [step_action hhost]
  exact ⟨_, hostWrite_operand hn v _, hset 1 s.a0, hset 2 s.a1, hset 3 s.a2, hset 4 s.a3, hset 5 s.a4, rfl⟩

/-- Each byte of a run of bytes reads back after it is written. -/
theorem readByte_writeBytes_inside {m : List Host.Cell} (hm : Memory.wf m) (a : Nat) {bs : List Byte} {j : Nat}
    (hj : j < bs.length) : readByte (writeBytes m a bs) (a + j) = bs[j] := by
  have hrun := readBytes_writeBytes_same hm a bs
  have hlen : j < (readBytes (writeBytes m a bs) a bs.length).length := by simpa using hj
  rw [← readBytes_getElem _ a bs.length j hlen]
  simp only [hrun]

/-- Settles O13: inside the space the bytes are written by `writeBytes`, outside it the step is the fault. -/
theorem hostMemoryWrites : Obligations.HostMemoryWrites := by
  intro s a bs rest hhost
  rw [step_action hhost]
  refine ⟨fun habove => ?_, fun hm hin => ?_⟩
  · exact if_neg (by simpa [spaceSize] using habove)
  · refine ⟨_, if_pos hin, fun j hj => readByte_writeBytes_inside hm a hj,
      fun x hx => readByte_writeBytes_outside hx, rfl⟩

/-- Numbers from 16 on read the contexts, four to a context (R32). -/
theorem hostRead_context (s : State) {n k r : Nat} (hn : n = 16 + 4 * k + r) (hr : r < 4) :
    hostRead s n = readContext s k r := by
  have hk : (n - 16) / 4 = k := by omega
  have hmod : (n - 16) % 4 = r := by omega
  unfold hostRead
  split <;> try omega
  rw [if_neg (by omega), hk, hmod]

theorem readContext_registers {s : State} {k : Nat} (hk : k < contexts s) :
    readContext s k 0 = (contextAt s k).seedA.setWidth 64 ∧ readContext s k 1 = (contextAt s k).seedB.setWidth 64 ∧
      readContext s k 2 = (contextAt s k).prev.setWidth 64 := by
  have hget : s.ds[k]? = some (contextAt s k) := by
    rw [contextAt, List.getD_eq_getElem?_getD, List.getElem?_eq_getElem hk, Option.getD_some]
  simp [readContext, hget]

theorem readContext_unassigned (s : State) (k : Nat) : readContext s k 3 = 0 := by
  cases h : s.ds[k]? <;> simp [readContext, h]

theorem readContext_missing {s : State} {k : Nat} (hk : contexts s ≤ k) (r : Nat) : readContext s k r = 0 := by
  simp [readContext, List.getElem?_eq_none hk]

/-- Settles O11: the numbers below 16 are a row of the table each, those from 16 on are `readContext`'s. -/
theorem hostReadsRegisterNumbers : Obligations.HostReadsRegisterNumbers := by
  intro s
  refine ⟨rfl, rfl, rfl, rfl, rfl, rfl, rfl, rfl, rfl, rfl, rfl, rfl, fun k hk => ?_, fun k => ?_, fun n hn => ?_,
    rfl, rfl, rfl, rfl⟩
  · obtain ⟨hA, hB, hprev⟩ := readContext_registers hk
    refine ⟨?_, ?_, ?_⟩
    · rw [hostRead_context s (k := k) (r := 0) (by omega) (by omega), hA]
    · rw [hostRead_context s (k := k) (r := 1) (by omega) (by omega), hB]
    · rw [hostRead_context s (k := k) (r := 2) (by omega) (by omega), hprev]
  · rw [hostRead_context s (k := k) (r := 3) (by omega) (by omega), readContext_unassigned]
  · rw [hostRead_context s (k := (n - 16) / 4) (r := (n - 16) % 4) (by omega) (by omega),
      readContext_missing (by omega)]

/-! ## The invariant under the setters -/

section Setters

variable {s : State} (h : StateInv s)
include h

theorem inv_setHost (v : List HostAction) : StateInv (s.setHost v) := { h with }

theorem inv_setW (v : Word) : StateInv (s.setW v) := { h with }

theorem inv_setAlloc (v : List Region) : StateInv (s.setAlloc v) := { h with }

theorem inv_setResult0 (v : Word) : StateInv (s.setResult0 v) := { h with }

theorem inv_setResult1 (v : Word) : StateInv (s.setResult1 v) := { h with }

theorem inv_setResult2 (v : Word) : StateInv (s.setResult2 v) := { h with }

theorem inv_setResult3 (v : Word) : StateInv (s.setResult3 v) := { h with }

/-- Every outcome code is one of the five (R300). -/
theorem inv_setStatus (code : Code) : StateInv (s.setStatus (codeWord code)) :=
  { h with status := show (codeWord code).toNat ≤ 4 by cases code <;> decide }

theorem inv_setCtrl {v : Word} (hv : v &&& 0xFFFFFFFE = 0) : StateInv (s.setCtrl v) := { h with ctrl := hv }

theorem inv_setMem {m : List Host.Cell} (hm : Memory.wf m) (hin : ∀ c ∈ m, c.1 < spaceSize s.params) :
    StateInv (s.setMem m) := { h with memory := hm, inSpace := hin }

theorem inv_setDs_set (k : Nat) {c : DitherCtx} (hc : PrevInRange c.prev) : StateInv (s.setDs (s.ds.set k c)) :=
  { h with
    contexts := by simpa using h.contexts
    prevs := fun d hd => (List.mem_or_eq_of_mem_set hd).elim (h.prevs d) fun e => e ▸ hc }

/-- What RUN and ZERO have to show: the registers they leave alone carry their part of the invariant over. -/
theorem inv_of_sameRegisters {t : State} (hr : SameRegisters s t) (hm : Memory.wf t.mem)
    (hin : ∀ c ∈ t.mem, c.1 < spaceSize s.params) (hsp : FitsAddr s.params t.work.sp)
    (hdp : FitsAddr s.params t.work.dp) (hn : FitsAddr s.params t.work.n) (hst : t.status = s.status)
    (hlen : t.ds.length = s.ds.length) (hprevs : ∀ c ∈ t.ds, PrevInRange c.prev) : StateInv t := by
  obtain ⟨hparams, -, h0, h1, h2, h3, h4, hctrl, -, -⟩ := hr
  refine ⟨hm, ?_, ?_, ?_, ?_, ?_, ?_, ?_, ?_, ?_, ?_, ?_, ?_, ?_, hprevs⟩ <;>
    simp only [hparams, h0, h1, h2, h3, h4, hctrl, hst, hlen]
  exacts [hin, h.a0, h.a1, h.a2, h.a3, h.a4, hsp, hdp, hn, h.ctrl, h.status, h.contexts, h.prevInit]

end Setters

/-! ## The invariant under the commands -/

/-- The sum of two shifted seeds lies in the range of R104, whatever the context was. -/
theorem ditherStep_prevInRange (c : DitherCtx) : PrevInRange (ditherStep c).2.prev := by
  have ha := shiftedSeed_range (nextSeed c.seedA)
  have hb := shiftedSeed_range (nextSeed c.seedB)
  rw [PrevInRange, ditherStep_prev_toInt]
  omega

theorem ctxAfter_prevInRange {c : DitherCtx} (hc : PrevInRange c.prev) (n : Nat) : PrevInRange (ctxAfter c n).prev := by
  cases n with
  | zero => exact hc
  | succ n => exact ditherStep_prevInRange _

theorem contextAt_prevInRange {s : State} (h : StateInv s) (k : Nat) : PrevInRange (contextAt s k).prev := by
  rw [contextAt, List.getD_eq_getElem?_getD]
  cases hk : s.ds[k]? with
  | none => exact h.prevInit
  | some c => exact h.prevs c (List.mem_of_getElem? hk)

theorem nextDither_inv {s : State} (h : StateInv s) (k : Nat) : StateInv (nextDither k s).2 :=
  inv_setDs_set h k (ditherStep_prevInRange _)

theorem stepOnce_inv (form : Int → Word) (k : Nat) {s : State} (h : StateInv s) : StateInv (stepOnce form k s) :=
  inv_setResult0 (nextDither_inv h k) _

theorem stepFour_inv (form : Int → Word) (k : Nat) {s : State} (h : StateInv s) : StateInv (stepFour form k s) :=
  have h4 := nextDither_inv (nextDither_inv (nextDither_inv (nextDither_inv h k) k) k) k
  inv_setResult3 (inv_setResult2 (inv_setResult1 (inv_setResult0 h4 _) _) _) _

theorem onContext_inv {k : Nat} {s t : State} {effect : State → State} (h : StateInv s) (he : StateInv (effect s))
    (hnext : onContext k s effect = .next t) : StateInv t := by
  rcases onContext_cases k s effect with ⟨-, e⟩ | ⟨-, e⟩ <;>
    obtain rfl := Host.Outcome.next.inj (e.symm.trans hnext)
  · exact inv_setStatus h .badOperand
  · exact inv_setStatus he .ok

theorem ditherCommand_inv {i : Instr} {k : Nat} {s t : State} (hi : i ∈ ditherCommands k) (h : StateInv s)
    (hnext : exec i s = .next t) : StateInv t := by
  simp only [ditherCommands, List.mem_cons, List.not_mem_nil, or_false] at hi
  rcases hi with rfl | rfl | rfl | rfl | rfl
  · exact onContext_inv h (inv_setDs_set h k h.prevInit) ((exec_dinit k s).symm.trans hnext)
  · exact onContext_inv h (stepOnce_inv _ k h) ((exec_dither16 k s).symm.trans hnext)
  · exact onContext_inv h (stepOnce_inv _ k h) ((exec_ditherf k s).symm.trans hnext)
  · exact onContext_inv h (stepFour_inv _ k h) ((exec_vdither16 k s).symm.trans hnext)
  · exact onContext_inv h (stepFour_inv _ k h) ((exec_vditherf k s).symm.trans hnext)

/-- A byte of the buffer a command writes lies in the address space, for with no element there is no such byte. -/
theorem inView_lt_spaceSize {s : State} {f : Format} {base stride count a : Nat}
    (hgood : count = 0 ∨ GoodView s f base stride count) (ha : InView f base stride count a) : a < spaceSize s.params := by
  rcases hgood with rfl | hgood
  · obtain ⟨i, hi, -⟩ := ha
    exact absurd hi (Nat.not_lt_zero i)
  · exact hgood.inSpace a ha

/-- When all its samples are done a RUN is in a state of the invariant. -/
theorem runAt_inv {c : Converter} {k : Nat} {s t : State} (h : StateInv s) (hready : RunReady s c.src c.dst)
    (ht : RunAt c k s t s.a4.toNat) : StateInv t := by
  obtain ⟨hsp, hdp, hn⟩ := ht.workFits
  have hin (x) (hx : x ∈ t.mem) : x.1 < spaceSize s.params :=
    (ht.inSpace x hx).elim (h.inSpace x) (inView_lt_spaceSize (hready.buffers.imp_right (·.destination)))
  refine inv_of_sameRegisters h ht.registers ht.wf hin hsp hdp hn ht.status ?_ fun d hd => ?_
  · rw [ht.contexts]
    split <;> simp
  · rw [ht.contexts] at hd
    split at hd
    · exact (inv_setDs_set h k (ctxAfter_prevInRange (contextAt_prevInRange h k) _)).prevs d hd
    · exact h.prevs d hd

theorem runConverter_inv {c : Converter} {k : Nat} {s t : State} (h : StateInv s) (hnext : runConverter c k s = .next t) :
    StateInv t := by
  rcases runConverter_cases c k s with ⟨-, -, e⟩ | ⟨-, e⟩ | ⟨r, -, e⟩ | ⟨hk, hready, e⟩
  · obtain rfl := Host.Outcome.next.inj (e.symm.trans hnext)
    exact inv_setStatus h .notImplemented
  · obtain rfl := Host.Outcome.next.inj (e.symm.trans hnext)
    exact inv_setStatus h .badOperand
  · exact nomatch e.symm.trans hnext
  · obtain rfl := Host.Outcome.next.inj (e.symm.trans hnext)
    have hstart := startRun_at (c := c) k h.memory h.a0 h.a2 h.a4
    exact inv_setStatus (runAt_inv h hready (runLoop_spec hk hready _ (Nat.le_refl _) (by simpa using hstart))) .ok

/-- When all its elements are done a ZERO is in a state of the invariant. -/
theorem zeroAt_inv {f : Format} {p : Word} {s t : State} (h : StateInv s) (hready : ZeroReady s f)
    (ht : ZeroAt f p s t s.a2.toNat) : StateInv t := by
  obtain ⟨hsp, hdp, hn⟩ := ht.workFits
  have hin (x) (hx : x ∈ t.mem) : x.1 < spaceSize s.params :=
    (ht.inSpace x hx).elim (h.inSpace x) (inView_lt_spaceSize hready.buffer)
  exact inv_of_sameRegisters h ht.registers ht.wf hin (hsp ▸ h.workSp) hdp hn ht.status (by rw [ht.contexts])
    (ht.contexts ▸ h.prevs)

theorem runZero_inv {f : Format} {p : Word} {s t : State} (h : StateInv s) (hnext : runZero f p s = .next t) :
    StateInv t := by
  rcases runZero_cases f p s with ⟨-, e⟩ | ⟨r, -, e⟩ | ⟨hready, -⟩
  · obtain rfl := Host.Outcome.next.inj (e.symm.trans hnext)
    exact inv_setStatus h .badOperand
  · exact nomatch e.symm.trans hnext
  · obtain ⟨u, hu, e⟩ := runZero_ready (p := p) hready h.memory h.a0 h.a2
    obtain rfl := Host.Outcome.next.inj (e.symm.trans hnext)
    exact inv_setStatus (zeroAt_inv h hready hu) .ok

/-- SETCTRL keeps the reserved bits of CTRL at 0 (R23, R280). -/
theorem withAccel_reserved {ctrl : Word} (h : ctrl &&& 0xFFFFFFFE = 0) (accel : Bool) :
    withAccel ctrl accel &&& 0xFFFFFFFE = 0 := by
  rw [withAccel, h]
  cases accel <;> decide

theorem registerCommand_inv {i : Instr} {s t : State} (hi : IsRegisterCommand i) (h : StateInv s)
    (hnext : exec i s = .next t) : StateInv t := by
  obtain ⟨ctrl, r0, code, rfl, hctrl⟩ := registerCommand_next hi hnext
  have hreserved : ctrl &&& 0xFFFFFFFE = 0 := by
    rcases hctrl with rfl | ⟨a, -, rfl⟩
    · exact h.ctrl
    · exact withAccel_reserved h.ctrl a
  exact inv_setStatus (inv_setResult0 (inv_setCtrl h hreserved) r0) code

theorem exec_inv {i : Instr} {s t : State} (h : StateInv s) (hnext : exec i s = .next t) : StateInv t := by
  rcases exec_shape i with ⟨-, k, c, -, hrun⟩ | ⟨-, -, f, hzero⟩ | hdither | hreg
  · exact runConverter_inv h ((hrun s).symm.trans hnext)
  · exact runZero_inv h ((hzero s).symm.trans hnext)
  · obtain ⟨k, hk, -⟩ := isDither_next hdither hnext
    exact ditherCommand_inv (ditherCommand_of_isDither hdither hk) h hnext
  · exact registerCommand_inv hreg h hnext

/-! ## The invariant under the host's actions -/

theorem runWord_inv {s t : State} (h : StateInv s) (hnext : runWord s = .next t) : StateInv t := by
  unfold runWord at hnext
  split at hnext
  · exact exec_inv h hnext
  · obtain rfl := Host.Outcome.next.inj hnext
    exact inv_setStatus h .illegalCommand

theorem hostWrite_inv {n : Nat} {v : BitVec 64} {s t : State} (h : StateInv s) (hnext : hostWrite n v s = .next t) :
    StateInv t := by
  rcases Nat.eq_zero_or_pos n with rfl | hn
  · exact runWord_inv (inv_setW h _) hnext
  · have hfit (k : Nat) {a : Addr} (ha : FitsAddr s.params a) :
        FitsAddr s.params (if n = k then truncAddr s.params v.toNat else a) := by
      split
      · exact truncAddr_fits _ _
      · exact ha
    rw [hostWrite_operand hn] at hnext
    obtain rfl := Host.Outcome.next.inj hnext
    exact { h with a0 := hfit 1 h.a0, a1 := hfit 2 h.a1, a2 := hfit 3 h.a2, a3 := hfit 4 h.a3, a4 := hfit 5 h.a4 }

theorem hostWriteMem_inv {a : Nat} {bs : List Byte} {s t : State} (h : StateInv s)
    (hnext : hostWriteMem a bs s = .next t) : StateInv t := by
  unfold hostWriteMem at hnext
  split at hnext
  · rename_i hin
    obtain rfl := Host.Outcome.next.inj hnext
    refine inv_setMem h (writeBytes_wf h.memory a bs) fun c hc => ?_
    rcases mem_writeBytes hc with hc | ⟨-, hc⟩
    · exact h.inSpace c hc
    · omega
  · cases hnext

/-- The reset event keeps memory and the parameters, and sets everything else to a value of the invariant (R340). -/
theorem resetEvent_inv {s : State} (h : StateInv s) : StateInv (resetEvent s) :=
  have hzero : FitsAddr s.params 0 := spaceSize_pos s.params
  { memory := h.memory
    inSpace := h.inSpace
    a0 := hzero, a1 := hzero, a2 := hzero, a3 := hzero, a4 := hzero
    workSp := hzero, workDp := hzero, workN := hzero
    ctrl := show Config.accelReset &&& 0xFFFFFFFE = 0 by decide
    status := Nat.zero_le 4
    contexts := by simpa [resetEvent] using h.contexts
    prevInit := h.prevInit
    prevs := fun c hc => by
      obtain rfl : c = initialCtx s.params := List.eq_of_mem_replicate hc
      exact h.prevInit }

theorem performHost_inv {act : HostAction} {s t : State} (h : StateInv s) (hnext : performHost act s = .next t) :
    StateInv t := by
  cases act with
  | writeReg n v => exact hostWrite_inv h hnext
  | writeMem a bs => exact hostWriteMem_inv h hnext
  | allocate r =>
    obtain rfl := Host.Outcome.next.inj hnext
    exact inv_setAlloc h _
  | release r =>
    obtain rfl := Host.Outcome.next.inj hnext
    exact inv_setAlloc h _
  | reset =>
    obtain rfl := Host.Outcome.next.inj hnext
    exact resetEvent_inv h

/-- Settles O7: a step is idle or performs the host's next action, and every action keeps the invariant. -/
theorem stepKeepsInvariant : Obligations.StepKeepsInvariant := by
  intro s t h hnext
  cases hhost : s.host with
  | nil =>
    rw [step_idle hhost] at hnext
    obtain rfl := Host.Outcome.next.inj hnext
    exact h
  | cons act rest =>
    rw [step_action hhost] at hnext
    exact performHost_inv (inv_setHost h rest) hnext

end Sys2Proof.Proofs.MachineState
end

/-! Elements of memory in both byte orders, and the buffers that a RUN or ZERO refuses. -/

namespace Sys2Proof.Proofs.Memory

open Sys2Proof.Machine Sys2Proof.Laws Sys2Proof.Claims

/-! ## The bytes of a stored element -/

theorem bytesOfPattern_getElem (p : Word) {n j : Nat} (hj : j < (bytesOfPattern p n).length) :
    (bytesOfPattern p n)[j] = p.extractLsb' (8 * j) 8 := by
  induction n generalizing p j with
  | zero => simp [bytesOfPattern] at hj
  | succ n ih =>
    cases j with
    | zero => simp [bytesOfPattern, ← BitVec.setWidth_ushiftRight_eq_extractLsb]
    | succ j =>
      have hshift : (p >>> 8).extractLsb' (8 * j) 8 = p.extractLsb' (8 * (j + 1)) 8 := by
        rw [← BitVec.setWidth_ushiftRight_eq_extractLsb, ← BitVec.setWidth_ushiftRight_eq_extractLsb,
          ← BitVec.shiftRight_add, Nat.mul_succ, Nat.add_comm]
      simpa [bytesOfPattern, hshift] using ih (p >>> 8) (j := j) (by simpa using hj)

/-- Element byte j in address order is the byte that R55 names. -/
theorem inByteOrder_bytesOfPattern_getElem (be : Bool) (f : Format) (p : Word) {j : Nat}
    (hj : j < (inByteOrder be (bytesOfPattern p (elemSize f))).length) :
    (inByteOrder be (bytesOfPattern p (elemSize f)))[j] = storedByte be f p j := by
  cases be with
  | false => exact bytesOfPattern_getElem p _
  | true => simp [inByteOrder, storedByte, bytesOfPattern_getElem]

/-- Settles O20: a store writes the bytes of the pattern in address order and nothing else. -/
theorem loadAfterStore : Obligations.LoadAfterStore := by
  intro be m f a p hm hp
  refine ⟨fun j hj => ?_, ?_, storeElem_wf hm f a p, fun x hx => readByte_storeElem_outside hx,
    fun g b hb => loadElem_storeElem_other hb⟩
  · have hlen : j < (inByteOrder be (bytesOfPattern p (elemSize f))).length := by simpa using hj
    exact (MachineState.readByte_writeBytes_inside hm a hlen).trans (inByteOrder_bytesOfPattern_getElem be f p hlen)
  · exact (loadElem_storeElem_same hm f a p).trans (keepBits_of_lt hp)

/-! ## Packed 24-bit samples -/

/-- Packing stores the upper three bytes of the word as an element of the 24-bit format (R57). -/
theorem pack24_toInt (be : Bool) (m : List Host.Cell) (a : Nat) (v : Word) :
    pack24 be m a v.toInt = storeElem be m .i24 a (v >>> 8) := by
  rw [pack24, BitVec.ofInt_toInt]

theorem readBytes_pack24 (be : Bool) {m : List Host.Cell} (hm : Memory.wf m) (a : Nat) (v : Word) :
    readBytes (pack24 be m a v.toInt) a 3 =
      inByteOrder be [v.extractLsb' 8 8, v.extractLsb' 16 8, v.extractLsb' 24 8] := by
  have hbytes : bytesOfPattern (v >>> 8) 3 = [v.extractLsb' 8 8, v.extractLsb' 16 8, v.extractLsb' 24 8] := by
    simp only [bytesOfPattern, ← BitVec.shiftRight_add, BitVec.setWidth_ushiftRight_eq_extractLsb]
  rw [pack24_toInt, ← hbytes]
  exact readBytes_storeElem hm .i24 a (v >>> 8)

/-- Moving the upper three bytes down and back up clears the low byte: the floor to a multiple of 256. -/
theorem shiftLeft_ushiftRight_toInt (v : Word) : (v >>> 8 <<< 8).toInt = v.toInt / 2 ^ 8 * 2 ^ 8 := by
  have hv := v.isLt
  have hn : (v >>> 8 <<< 8).toNat = v.toNat / 2 ^ 8 * 2 ^ 8 := by
    rw [BitVec.toNat_shiftLeft, BitVec.toNat_ushiftRight, Nat.shiftLeft_eq, Nat.shiftRight_eq_div_pow]
    omega
  rw [BitVec.toInt_eq_toNat_cond, BitVec.toInt_eq_toNat_cond, hn]
  split <;> split <;> omega

theorem unpack24_pack24 (be : Bool) {m : List Host.Cell} (hm : Memory.wf m) (a : Nat) (v : Word) :
    unpack24 be (pack24 be m a v.toInt) a = v.toInt / 2 ^ 8 * 2 ^ 8 := by
  have hfits : (v >>> 8).toNat < 2 ^ sampleBits .i24 := by
    rw [BitVec.toNat_ushiftRight, Nat.shiftRight_eq_div_pow]
    exact Nat.div_lt_of_lt_mul v.isLt
  rw [unpack24, pack24_toInt, loadElem_storeElem_same hm, keepBits_of_lt hfits, shiftLeft_ushiftRight_toInt]

/-- Settles O21: the two byte orders of `readBytes_pack24`, and `unpack24_pack24`. -/
theorem packAndUnpack24 : Obligations.PackAndUnpack24 := fun _ a v hm =>
  ⟨readBytes_pack24 false hm a v, readBytes_pack24 true hm a v, fun be => unpack24_pack24 be hm a v⟩

/-! ## The converter of each row -/

/-- The commands of a row run the converter c, and c has the row's formats. -/
structure RunsAs (r : Row) (c : Converter) : Prop where
  src  : c.src = r.src
  dst  : c.dst = r.dst
  exec : ∀ k s, Machine.exec (r.command k) s = runConverter c k s

theorem copies_runAs : ∀ r ∈ copies, RunsAs r (copyConverter r.dst) := by
  intro r hr
  fin_cases hr <;> exact ⟨rfl, rfl, fun _ _ => rfl⟩

theorem toFloats_runAs : ∀ r ∈ toFloats, RunsAs r (toFloatConverter r.src) := by
  intro r hr
  fin_cases hr <;> exact ⟨rfl, rfl, fun _ _ => rfl⟩

theorem widenings_runAs : ∀ r ∈ widenings, RunsAs r (widenConverter r.src r.dst) := by
  intro r hr
  fin_cases hr <;> exact ⟨rfl, rfl, fun _ _ => rfl⟩

theorem offsets_runAs : ∀ r ∈ offsets, RunsAs r (widenConverter r.src r.dst) := by
  intro r hr
  fin_cases hr <;> exact ⟨rfl, rfl, fun _ _ => rfl⟩

theorem narrowings_runAs : ∀ r ∈ narrowings, RunsAs r (narrowConverter r.src r.dst) := by
  intro r hr
  fin_cases hr <;> exact ⟨rfl, rfl, fun _ _ => rfl⟩

theorem ditheredNarrowings_runAs : ∀ r ∈ ditheredNarrowings, RunsAs r (narrowDConverter r.src r.dst) := by
  intro r hr
  fin_cases hr <;> exact ⟨rfl, rfl, fun _ _ => rfl⟩

theorem fromFloats_runAs : ∀ r ∈ fromFloats, RunsAs r.toRow (floatConverter r.dst r.dither r.clip r.tol) := by
  intro r hr
  fin_cases hr <;> exact ⟨rfl, rfl, fun _ _ => rfl⟩

theorem plainRows_runAs {r : Row} (hr : r ∈ plainRows) : ∃ c, RunsAs r c ∧ c.dither = false := by
  simp only [plainRows, List.mem_append, List.mem_map, List.mem_filter, Bool.not_eq_true'] at hr
  rcases hr with ((((h | h) | h) | h) | h) | ⟨q, ⟨h, hplain⟩, rfl⟩
  · exact ⟨_, copies_runAs r h, rfl⟩
  · exact ⟨_, toFloats_runAs r h, rfl⟩
  · exact ⟨_, widenings_runAs r h, rfl⟩
  · exact ⟨_, offsets_runAs r h, rfl⟩
  · exact ⟨_, narrowings_runAs r h, rfl⟩
  · exact ⟨_, fromFloats_runAs q h, hplain⟩

theorem ditheringRows_runAs {r : Row} (hr : r ∈ ditheringRows) : ∃ c, RunsAs r c ∧ c.dither = true := by
  simp only [ditheringRows, List.mem_append, List.mem_map, List.mem_filter] at hr
  rcases hr with h | ⟨q, ⟨h, hdither⟩, rfl⟩
  · exact ⟨_, ditheredNarrowings_runAs r h, rfl⟩
  · exact ⟨_, fromFloats_runAs q h, hdither⟩

theorem ditheringRows_implemented : ∀ r ∈ ditheringRows, (r.src, r.dst) ∉ Config.unimpl := by decide

theorem zeroFills_run : ∀ z ∈ zeroFills, ∀ s, exec z.1 s = runZero z.2.1 z.2.2 s := by
  intro z hz
  fin_cases hz <;> exact fun _ => rfl

/-! ## Refused buffers -/

/-- Alignment is the first duty looked at (R59, log 6). -/
theorem runBreach_misaligned {src dst : Format} {s : State} (h4 : s.a4.toNat ≠ 0)
    (h : s.a0.toNat % baseAlign dst ≠ 0) : runBreach src dst s = some .misalignedBuffer := by
  rw [runBreach, if_neg h4, if_pos (.inl h)]

theorem zeroBreach_misaligned {f : Format} {s : State} (h2 : s.a2.toNat ≠ 0) (h : s.a0.toNat % baseAlign f ≠ 0) :
    zeroBreach f s = some .misalignedBuffer := by
  rw [zeroBreach, if_neg h2, if_pos h]

/-- A RUN that passes its checks on buffers that break the contract is refused by its first breach (R59, R60). -/
theorem runConverter_refused {c : Converter} {k : Nat} {s : State}
    (himpl : c.dither = true → (c.src, c.dst) ∉ Config.unimpl) (hk : c.dither = true → k < contexts s)
    (h1 : s.a1 ≠ 0) (h3 : s.a3 ≠ 0) (h4 : s.a4.toNat ≠ 0) (hbad : ¬ RunContract s c.src c.dst) :
    ∃ why, runConverter c k s = .refused why ∧
      (s.a0.toNat % baseAlign c.dst ≠ 0 → why = .misalignedBuffer) := by
  rcases runConverter_cases c k s with ⟨hd, hun, -⟩ | ⟨hcheck, -⟩ | ⟨why, hbreach, hrun⟩ | ⟨-, hready, -⟩
  · exact absurd hun (himpl hd)
  · rcases hcheck with ⟨hd, hle⟩ | h | h
    · exact absurd (hk hd) (Nat.not_lt.mpr hle)
    · exact absurd h h1
    · exact absurd h h3
  · exact ⟨why, hrun, fun h => Option.some.inj (hbreach.symm.trans (runBreach_misaligned h4 h))⟩
  · exact absurd (hready.buffers.resolve_left h4) hbad

theorem runZero_refused {f : Format} {p : Word} {s : State} (h1 : s.a1 ≠ 0) (h2 : s.a2.toNat ≠ 0)
    (hbad : ¬ GoodView s f s.a0.toNat s.a1.toNat s.a2.toNat) :
    ∃ why, runZero f p s = .refused why ∧ (s.a0.toNat % baseAlign f ≠ 0 → why = .misalignedBuffer) := by
  rcases runZero_cases f p s with ⟨h, -⟩ | ⟨why, hbreach, hrun⟩ | ⟨hready, -⟩
  · exact absurd h h1
  · exact ⟨why, hrun, fun h => Option.some.inj (hbreach.symm.trans (zeroBreach_misaligned h2 h))⟩
  · exact absurd (hready.buffer.resolve_left h2) hbad

/-- Settles O37: every row runs a converter, and `runConverter_refused` and `runZero_refused` say what it answers. -/
theorem brokenBuffersAreRefused : Obligations.BrokenBuffersAreRefused := by
  refine ⟨fun r hr s k h1 h3 h4 hbad => ?_, fun r hr s k hk h1 h3 h4 hbad => ?_, fun z hz s h1 h2 hbad => ?_⟩
  · obtain ⟨c, ⟨hsrc, hdst, hexec⟩, hplain⟩ := plainRows_runAs hr
    rw [← hsrc, ← hdst] at hbad
    rw [hexec, ← hdst]
    exact runConverter_refused (by simp [hplain]) (by simp [hplain]) h1 h3 h4 hbad
  · obtain ⟨c, ⟨hsrc, hdst, hexec⟩, -⟩ := ditheringRows_runAs hr
    have himpl := ditheringRows_implemented r hr
    rw [← hsrc, ← hdst] at hbad himpl
    rw [hexec, ← hdst]
    exact runConverter_refused (fun _ => himpl) (fun _ => hk) h1 h3 h4 hbad
  · rw [zeroFills_run z hz]
    exact runZero_refused h1 h2 hbad

end Sys2Proof.Proofs.Memory

/-! Command words: which words decode and to what, which are illegal, what a step does with a word, and that a converter
without dither does not see its context index. -/

namespace Sys2Proof.Proofs.Encoding

open Sys2Proof.Machine Sys2Proof.Laws Sys2Proof.Claims

/-! ## The parts of the decoder -/

@[simp] theorem withFunction_eq_command {o : Option Instr} {i : Instr} : withFunction o = .command i ↔ o = some i := by
  cases o <;> simp [withFunction]

@[simp] theorem withoutContext_eq_command {k : Nat} {o : Option Instr} {i : Instr} :
    withoutContext k o = .command i ↔ k = 0 ∧ o = some i := by
  by_cases hk : k = 0 <;> simp [withoutContext, hk]

@[simp] theorem decodeUnusedFn_eq_some {fn : Nat} {i j : Instr} : decodeUnusedFn fn i = some j ↔ fn = 0 ∧ i = j := by
  cases fn <;> simp [decodeUnusedFn]

/-- A word decodes to what its opcode, function and context fields name, when its reserved bits are 0 (R71). -/
theorem decode_eq_command_iff_fields {w : Word} {i : Instr} :
    decode w = .command i ↔ zeroField w = 0 ∧ decodeOpcode (opcField w) (fnField w) (dctxField w) = .command i := by
  by_cases hz : zeroField w = 0 <;> simp [decode, hz]

theorem illegal_iff_no_command (x : Decoded) : (∃ why, x = .illegal why) ↔ ¬ ∃ i, x = .command i := by
  cases x <;> simp

/-! ## The fields of a command's word -/

/-- The encoder writes the command with these fields, and DCTX is the command's context index, 0 where it has none (R77). -/
structure EncodedAs (i : Instr) (opc fn k : Nat) : Prop where
  context : (dctxOf i).getD 0 = k
  word    : encode i = commandWord opc fn k

/-- A command is well formed when its context index fits the field it is written to. -/
theorem EncodedAs.wellFormed_iff {i : Instr} {opc fn k : Nat} (h : EncodedAs i opc fn k) : WellFormed i ↔ k < 256 := by
  obtain ⟨rfl, -⟩ := h
  cases hd : dctxOf i <;> simp [WellFormed, hd]

/-- The decoder reads the fields that the encoder writes, for every constructor (R72, R73, R75). -/
theorem decodeOpcode_encodedAs (i : Instr) :
    ∃ opc fn k, opc < 256 ∧ fn < 256 ∧ EncodedAs i opc fn k ∧ decodeOpcode opc fn k = .command i := by
  cases i
  case resolve c d =>
    have hfn : resolveFn c d < 256 ∧ decodeResolve (resolveFn c d) = some (.resolve c d) := by revert c d; decide
    exact ⟨_, _, _, by decide, hfn.1, ⟨rfl, rfl⟩, by simp [decodeOpcode, hfn.2, dctxOf]⟩
  case setctrl a =>
    have hfn : a.toNat < 256 ∧ decodeSetctrl a.toNat = some (.setctrl a) := by revert a; decide
    exact ⟨_, _, _, by decide, hfn.1, ⟨rfl, rfl⟩, by simp [decodeOpcode, hfn.2, dctxOf]⟩
  all_goals exact ⟨_, _, _, by decide, by decide, ⟨rfl, rfl⟩, rfl⟩

/-- A legal CONVID names a converter that is encoded with it (R75). -/
theorem decodeConvId_eq_some {fn k : Nat} {i : Instr} (h : decodeConvId fn k = some i) :
    fn ∈ legalConvIds ∧ EncodedAs i 0x01 fn k := by
  unfold decodeConvId at h
  split at h <;> cases h
  all_goals exact ⟨by decide, rfl, rfl⟩

theorem decodeZero_eq_some {fn : Nat} {i : Instr} (h : decodeZero fn = some i) : fn ≤ 5 ∧ EncodedAs i 0x02 fn 0 := by
  unfold decodeZero at h
  split at h <;> cases h
  all_goals exact ⟨by decide, rfl, rfl⟩

theorem decodeResolve_eq_some {fn : Nat} {i : Instr} (h : decodeResolve fn = some i) :
    fn ≤ 3 ∧ EncodedAs i 0x03 fn 0 := by
  unfold decodeResolve at h
  split at h <;> cases h
  all_goals exact ⟨by decide, rfl, rfl⟩

theorem decodeSetctrl_eq_some {fn : Nat} {i : Instr} (h : decodeSetctrl fn = some i) :
    fn ≤ 1 ∧ EncodedAs i 0x0A fn 0 := by
  unfold decodeSetctrl at h
  split at h <;> cases h
  all_goals exact ⟨by decide, rfl, rfl⟩

/-- The command that three fields name is encoded with them, opcode by opcode (R72). -/
theorem encodedAs_of_decodeOpcode {opc fn k : Nat} {i : Instr} (h : decodeOpcode opc fn k = .command i) :
    EncodedAs i opc fn k := by
  unfold decodeOpcode at h
  split at h <;>
    simp only [withFunction_eq_command, withoutContext_eq_command, decodeUnusedFn_eq_some, reduceCtorEq] at h
  case h_1 => exact (decodeConvId_eq_some h).2
  case h_2 => obtain ⟨rfl, h⟩ := h; exact (decodeZero_eq_some h).2
  case h_3 => obtain ⟨rfl, h⟩ := h; exact (decodeResolve_eq_some h).2
  case h_4 => obtain ⟨rfl, rfl, rfl⟩ := h; exact ⟨rfl, rfl⟩
  case h_10 => obtain ⟨rfl, h⟩ := h; exact (decodeSetctrl_eq_some h).2
  all_goals obtain ⟨rfl, rfl⟩ := h; exact ⟨rfl, rfl⟩

/-! ## Decoder and encoder are inverse -/

theorem decode_commandWord {opc fn k : Nat} (ho : opc < 256) (hf : fn < 256) (hk : k < 256) :
    decode (commandWord opc fn k) = decodeOpcode opc fn k := by
  simp [decode, Nat.mod_eq_of_lt, ho, hf, hk]

/-- Settles O3: the decoder reads back the fields the encoder writes (`decodeOpcode_encodedAs`), which fit their bytes. -/
theorem decodeEncode : Obligations.DecodeEncode := by
  intro i hi
  obtain ⟨opc, fn, k, ho, hf, hfields, hdecode⟩ := decodeOpcode_encodedAs i
  rw [hfields.word, decode_commandWord ho hf (hfields.wellFormed_iff.mp hi), hdecode]

/-- Settles O4: the command is encoded with the fields it was read from (`encodedAs_of_decodeOpcode`), and a word is made of
its fields. -/
theorem encodeDecode : Obligations.EncodeDecode := by
  intro w i h
  obtain ⟨hz, hdecode⟩ := decode_eq_command_iff_fields.mp h
  have hfields := encodedAs_of_decodeOpcode hdecode
  exact ⟨hfields.wellFormed_iff.mpr (BitVec.isLt _), hfields.word.trans (commandWord_fields w hz)⟩

/-! ## Legal functions -/

theorem exists_decodeConvId_iff {fn k : Nat} : (∃ i, decodeConvId fn k = some i) ↔ fn ∈ legalConvIds := by
  refine ⟨fun ⟨i, h⟩ => (decodeConvId_eq_some h).1, fun h => ?_⟩
  simp only [legalConvIds] at h
  fin_cases h <;> exact ⟨_, rfl⟩

theorem exists_decodeZero_iff {fn : Nat} : (∃ i, decodeZero fn = some i) ↔ fn ≤ 5 := by
  refine ⟨fun ⟨i, h⟩ => (decodeZero_eq_some h).1, fun h => ?_⟩
  interval_cases fn <;> exact ⟨_, rfl⟩

theorem exists_decodeResolve_iff {fn : Nat} : (∃ i, decodeResolve fn = some i) ↔ fn ≤ 3 := by
  refine ⟨fun ⟨i, h⟩ => (decodeResolve_eq_some h).1, fun h => ?_⟩
  interval_cases fn <;> exact ⟨_, rfl⟩

theorem exists_decodeSetctrl_iff {fn : Nat} : (∃ i, decodeSetctrl fn = some i) ↔ fn ≤ 1 := by
  refine ⟨fun ⟨i, h⟩ => (decodeSetctrl_eq_some h).1, fun h => ?_⟩
  interval_cases fn <;> exact ⟨_, rfl⟩

/-- Three fields name a command when FN is legal for OPC and DCTX is 0 on the commands without a context (R73, R77). -/
theorem exists_decodeOpcode_iff {opc fn k : Nat} :
    (∃ i, decodeOpcode opc fn k = .command i) ↔ legalFn opc fn ∧ (k ≠ 0 → opc ∉ [0x02, 0x03, 0x04, 0x0A]) := by
  unfold decodeOpcode
  split
  case h_1 => simp [legalFn, exists_decodeConvId_iff]
  case h_2 => simp [legalFn, exists_decodeZero_iff, and_comm]
  case h_3 => simp [legalFn, exists_decodeResolve_iff, and_comm]
  case h_4 => simp [legalFn, and_comm]
  case h_10 => simp [legalFn, exists_decodeSetctrl_iff, and_comm]
  case h_11 =>
    have hnot : ¬ legalFn opc fn := by
      simp only [imp_false] at *
      unfold legalFn
      omega
    simp [hnot]
  all_goals simp [legalFn]

/-! ## Illegal words -/

theorem fnField_eq (w : Word) : fnField w = w.toNat / 2 ^ 8 % 2 ^ 8 := by
  rw [fnField, BitVec.extractLsb'_toNat, Nat.shiftRight_eq_div_pow]

theorem dctxField_eq (w : Word) : dctxField w = w.toNat / 2 ^ 16 % 2 ^ 8 := by
  rw [dctxField, BitVec.extractLsb'_toNat, Nat.shiftRight_eq_div_pow]

theorem zeroField_eq (w : Word) : zeroField w = w.toNat / 2 ^ 24 := by
  rw [zeroField, BitVec.extractLsb'_toNat, Nat.shiftRight_eq_div_pow]
  exact Nat.mod_eq_of_lt (Nat.div_lt_of_lt_mul w.isLt)

/-- A legal FN leaves no room for a reserved OPC (R72, R73). -/
theorem opc_of_legalFn {opc fn : Nat} (h : legalFn opc fn) : ¬ (opc = 0 ∨ 0x0B ≤ opc) := by
  unfold legalFn at h
  omega

theorem illegalByR79_iff_fields (w : Word) :
    illegalByR79 w ↔ ¬ (zeroField w = 0 ∧ legalFn (opcField w) (fnField w) ∧
      (dctxField w ≠ 0 → opcField w ∉ [0x02, 0x03, 0x04, 0x0A])) := by
  have hopc := @opc_of_legalFn (opcField w) (fnField w)
  rw [illegalByR79, ← zeroField_eq, ← dctxField_eq, ← fnField_eq, ← MachineState.opcField_eq]
  tauto

/-- The decoder refuses the words of R79. -/
theorem decode_illegal_iff (w : Word) : (∃ why, decode w = .illegal why) ↔ illegalByR79 w := by
  rw [illegal_iff_no_command, illegalByR79_iff_fields, ← exists_decodeOpcode_iff]
  simp only [decode_eq_command_iff_fields, exists_and_left]

/-! ## What a step does with a word -/

theorem runWord_of_command {s : State} {i : Instr} (h : decode s.w = .command i) : runWord s = exec i s := by
  rw [runWord, h]

/-- An illegal word sets STATUS to ILLEGAL_COMMAND, 3, whatever makes it illegal (R79). -/
theorem runWord_of_illegal {s : State} {why : IllegalWord} (h : decode s.w = .illegal why) :
    runWord s = .next (s.setStatus 3) := by
  rw [runWord, h]
  rfl

/-- A write to W is taken from the queue, W holds the low 32 bits, and the word runs (R70). -/
theorem step_issue {s : State} {v : BitVec 64} {rest : List HostAction} (h : s.host = .writeReg 0 v :: rest) :
    step s = runWord ((s.setHost rest).setW (v.setWidth 32)) :=
  MachineState.step_action h

theorem step_withFetchWord (s : State) (w : Word) : step (s.withFetchWord 32 w.toNat) = runWord (s.setW w) := by
  have hw : (BitVec.ofNat 64 (w.toNat % 2 ^ 32 % 2 ^ 32)).setWidth 32 = w := by
    rw [Nat.mod_mod, Nat.mod_eq_of_lt w.isLt, BitVec.setWidth_ofNat_of_le (by decide), BitVec.ofNat_toNat,
      BitVec.setWidth_eq]
  have hhost : (s.withFetchWord 32 w.toNat).host = issueAction 32 w.toNat :: s.host := rfl
  rw [step_issue hhost, hw]
  rfl

/-- Settles O2: `decode_illegal_iff`, and what `runWord` does with a word the decoder refuses. -/
theorem illegalWordsAreR79AndChangeOnlyStatus : Obligations.IllegalWordsAreR79AndChangeOnlyStatus := by
  refine ⟨decode_illegal_iff, fun s v rest hhost hillegal => ?_⟩
  obtain ⟨why, hwhy⟩ := (decode_illegal_iff _).mpr hillegal
  rw [step_issue hhost]
  exact runWord_of_illegal hwhy

/-- Settles O1: a step with a write to W is `runWord`, and a well-formed command's word decodes to it. -/
theorem stepRunsIssuedCommand : Obligations.StepRunsIssuedCommand := by
  refine ⟨fun s v rest i hhost hdecode => ?_, fun s i hi => ?_⟩
  · rw [step_issue hhost]
    exact runWord_of_command hdecode
  · rw [step_withFetchWord]
    exact runWord_of_command (decodeEncode i hi)

/-! ## Worked encodings -/

/-- The illegal words of R84, in its order, each for the clause of R79 it breaks. -/
theorem illegalByR79_worked :
    ∀ w ∈ [0x00000000#32, 0x0000030A#32, 0x00000101#32, 0x0000C001#32, 0x01000004#32, 0x00010002#32], illegalByR79 w := by
  have hopc : illegalByR79 0x00000000 := .inr (.inl (by decide))
  have hsetctrl : illegalByR79 0x0000030A := .inr (.inr (.inl (by simp [legalFn])))
  have hclip : illegalByR79 0x00000101 := .inr (.inr (.inl (by simp [legalFn, legalConvIds])))
  have hsource : illegalByR79 0x0000C001 := .inr (.inr (.inl (by simp [legalFn, legalConvIds])))
  have hreserved : illegalByR79 0x01000004 := .inl (by decide)
  have hcontext : illegalByR79 0x00010002 := .inr (.inr (.inr (by decide)))
  simp only [List.forall_mem_cons]
  exact ⟨hopc, hsetctrl, hclip, hsource, hreserved, hcontext, by simp⟩

/-- Settles O5: the ten commands by running the decoder, the six illegal words by R79. -/
theorem workedEncodings : Obligations.WorkedEncodings := by
  refine ⟨by decide, by decide, by decide, by decide, by decide, by decide, by decide, by decide, by decide, by decide,
    fun w hw i h => ?_⟩
  exact (illegal_iff_no_command _).mp ((decode_illegal_iff w).mpr (illegalByR79_worked w hw)) ⟨i, h⟩

/-! ## Converter identities and the registry -/

/-- R75 lists the CONVIDs of the variants that R132 gives each pair of formats. -/
theorem convId_mem_legalConvIds (src dst : Format) (d c : Bool) :
    convId src dst d c ∈ legalConvIds ↔ ((!d || hasD src dst) && (!c || hasC src dst)) = true := by
  cases src <;> cases dst <;> revert d c <;> decide

/-- Settles O6: `convId_mem_legalConvIds`, since the decoder takes the CONVIDs of R75. -/
theorem convIdsAreTheRegistrysVariants : Obligations.ConvIdsAreTheRegistrysVariants := by
  intro src dst d c k
  rw [Bool.eq_iff_iff, Option.isSome_iff_exists, exists_decodeConvId_iff, convId_mem_legalConvIds]

/-! ## Converters without dither -/

section Plain

variable {c : Converter} (hplain : c.dither = false)

include hplain

theorem sampleDither_plain (k : Nat) (s : State) : sampleDither c k s = (0, s) := by
  simp [sampleDither_spec, hplain]

theorem convertSample_plain (j k : Nat) (accelerated : Bool) (s : State) :
    convertSample c j accelerated s = convertSample c k accelerated s := by
  simp only [convertSample, sampleDither_plain hplain]

theorem runLoop_plain (j k count n : Nat) (s : State) : runLoop c j count n s = runLoop c k count n s := by
  induction n generalizing s with
  | zero => rfl
  | succ n ih => simp only [runLoop, convertSample_plain hplain j k, ih]

/-- Neither the checks nor the loop of a converter without dither look at the context index (R77, R154). -/
theorem runConverter_plain (j k : Nat) (s : State) : runConverter c j s = runConverter c k s := by
  simp only [runConverter, runLoop_plain hplain j k, hplain, Bool.false_eq_true, false_and]

end Plain

/-- Settles O38: every row without dither runs one converter, and `runConverter_plain`. -/
theorem plainConvertersIgnoreContext : Obligations.PlainConvertersIgnoreContext := by
  intro r hr s j k
  obtain ⟨c, hrun, hplain⟩ := Memory.plainRows_runAs hr
  rw [hrun.exec, hrun.exec, runConverter_plain hplain]

end Sys2Proof.Proofs.Encoding

/-! The dither generator: what the five dither commands leave behind, the ranges and the telescoping sum of the outputs, and
the lanes of the vectorised form. -/

namespace Sys2Proof.Proofs.Dither

open Sys2Proof.Machine Sys2Proof.Laws Sys2Proof.Claims

/-! ## Dither commands on a context the instance has -/

theorem onContext_of_lt {k : Nat} {s : State} (hk : k < contexts s) (effect : State → State) :
    onContext k s effect = .next (finish (effect s)) := if_neg (Nat.not_le.mpr hk)

theorem onContext_of_le {k : Nat} {s : State} (hk : contexts s ≤ k) (effect : State → State) :
    onContext k s effect = .next (raise .badOperand s) := if_pos hk

/-- The state after n + 1 scalar dither commands on context k: the context that many steps on, the last value in RESULT0. -/
def afterScalar (form : Int → Word) (k : Nat) (s : State) (n : Nat) : State :=
  finish ((s.setDs (s.ds.set k (ctxAfter (contextAt s k) (n + 1)))).setResult0 (form (ditherValue (contextAt s k) n)))

theorem afterScalar_result0 (form : Int → Word) (k : Nat) (s : State) (n : Nat) :
    (afterScalar form k s n).result0 = form (ditherValue (contextAt s k) n) := rfl

theorem contexts_afterScalar (form : Int → Word) (k : Nat) (s : State) (n : Nat) :
    contexts (afterScalar form k s n) = contexts s := List.length_set

theorem contextAt_afterScalar {k : Nat} {s : State} (hk : k < contexts s) (form : Int → Word) (n : Nat) :
    contextAt (afterScalar form k s n) k = ctxAfter (contextAt s k) (n + 1) := contextAt_setDs_set hk _

/-- The first scalar command on a context (R106, R107). -/
theorem onContext_stepOnce {k : Nat} {s : State} (hk : k < contexts s) (form : Int → Word) :
    onContext k s (stepOnce form k) = .next (afterScalar form k s 0) := by
  rw [onContext_of_lt hk, stepOnce_spec, afterScalar, ctxAfter_succ, ditherValue, ctxAfter_zero]

/-- A scalar command overwrites what the one before it left in the context file, RESULT0 and STATUS. -/
theorem finish_overwrites (s : State) (l l' : List DitherCtx) (r r' : Word) :
    finish (((finish ((s.setDs l).setResult0 r)).setDs l').setResult0 r') = finish ((s.setDs l').setResult0 r') := by
  simp only [finish, State.setStatus, State.setResult0, State.setDs]

/-- One more scalar command takes the step after those already taken. -/
theorem onContext_stepOnce_afterScalar {k : Nat} {s : State} (hk : k < contexts s) (form : Int → Word) (n : Nat) :
    onContext k (afterScalar form k s n) (stepOnce form k) = .next (afterScalar form k s (n + 1)) := by
  have hds : (afterScalar form k s n).ds = s.ds.set k (ctxAfter (contextAt s k) (n + 1)) := rfl
  rw [onContext_of_lt ((contexts_afterScalar form k s n).symm ▸ hk), stepOnce_spec, contextAt_afterScalar hk, hds,
    List.set_set, afterScalar, finish_overwrites, afterScalar, ctxAfter_succ _ (n + 1), ditherValue]

/-- Four scalar commands in a row each end in a next state. -/
theorem fourInARow_afterScalar {i : Instr} {form : Int → Word} {k : Nat} {s : State} (hk : k < contexts s)
    (hexec : ∀ u, exec i u = onContext k u (stepOnce form k)) :
    FourInARow i s (afterScalar form k s 0) (afterScalar form k s 1) (afterScalar form k s 2) (afterScalar form k s 3) := by
  simp only [FourInARow, hexec]
  exact ⟨onContext_stepOnce hk form, onContext_stepOnce_afterScalar hk form 0, onContext_stepOnce_afterScalar hk form 1,
    onContext_stepOnce_afterScalar hk form 2⟩

/-- The four-wide command ends where the fourth scalar one does, with the four values in the four registers (R108, R109). -/
theorem onContext_stepFour {k : Nat} {s : State} (hk : k < contexts s) (form : Int → Word) :
    onContext k s (stepFour form k) =
      .next (((((afterScalar form k s 3).setResult0 (afterScalar form k s 0).result0).setResult1
        (afterScalar form k s 1).result0).setResult2 (afterScalar form k s 2).result0).setResult3
        (afterScalar form k s 3).result0) := by
  rw [onContext_of_lt hk, stepFour_spec hk]
  simp only [afterScalar_result0]
  rfl

/-! ## The scalar commands -/

/-- Settles O22: `onContext_stepOnce`, with the recurrence and the shift in plain integers. -/
theorem dither16Result : Obligations.Dither16Result := by
  intro s k hk
  refine ⟨nextSeed (contextAt s k).seedA, nextSeed (contextAt s k).seedB,
    shiftedSeed (nextSeed (contextAt s k).seedA) + shiftedSeed (nextSeed (contextAt s k).seedB),
    (ditherStep (contextAt s k)).1, nextSeed_toNat _, nextSeed_toNat _, ?_, ditherStep_output _, ?_⟩
  · rw [shiftedSeed_eq, shiftedSeed_eq]
  · rw [exec_dither16, onContext_stepOnce hk]
    rfl

/-- The floating form in exact rationals (R107). -/
theorem floatResult_eq (d : Int) : floatResult d = rne32 ((d : ℚ) / 32767) := by
  rw [floatResult, floatDither, Rat.mkRat_eq_div]
  rfl

/-- Settles O23: both commands are `onContext_stepOnce`, and differ in the form of the value alone. -/
theorem ditherfResult : Obligations.DitherfResult := by
  intro s k hk
  refine ⟨afterScalar integerResult k s 0, onContext_stepOnce hk _, ?_⟩
  rw [exec_ditherf, onContext_stepOnce hk, ← floatResult_eq]
  rfl

/-! ## The four-wide commands -/

/-- Settles O24: `fourInARow_afterScalar` and `onContext_stepFour` for the integer form. -/
theorem vdither16IsFourDither16 : Obligations.Vdither16IsFourDither16 := fun s k hk =>
  ⟨_, _, _, _, fourInARow_afterScalar hk (exec_dither16 k), (exec_vdither16 k s).trans (onContext_stepFour hk _)⟩

/-- Settles O25: `fourInARow_afterScalar` and `onContext_stepFour` for the floating form. -/
theorem vditherfIsFourDitherf : Obligations.VditherfIsFourDitherf := fun s k hk =>
  ⟨_, _, _, _, fourInARow_afterScalar hk (exec_ditherf k), (exec_vditherf k s).trans (onContext_stepFour hk _)⟩

/-! ## Ranges and the telescoping sum -/

/-- Settles O27: the new PREV is the sum of the two shifted seeds, and the output is that sum minus the old PREV. -/
theorem ditherRanges : Obligations.DitherRanges := by
  intro c hprev
  have hnext := MachineState.ditherStep_prevInRange c
  have hsum : (ditherStep c).2.prev.toInt = (ditherStep c).1 + c.prev.toInt := by
    rw [ditherStep_prev_toInt, ditherStep_output, Int.sub_add_cancel]
  have houtput : -32766 ≤ (ditherStep c).1 ∧ (ditherStep c).1 ≤ 32766 := by
    rw [PrevInRange] at hprev hnext
    omega
  exact ⟨houtput.1, houtput.2, hnext, hsum⟩

/-- Settles O29: by induction on n, each value being the difference of two successive sums (`ditherValue_eq`). -/
theorem ditherOutputsTelescope : Obligations.DitherOutputsTelescope := by
  intro c n
  induction n with
  | zero => simp
  | succ n ih =>
    rw [List.sum_range_succ, ih, ditherValue_eq]
    omega

/-! ## The lanes -/

/-- n steps of the recurrence at once (R110). -/
theorem iterate_nextSeed (n : Nat) (seed : Word) : nextSeed^[n] seed = seed * laneMul n + laneAdd n := by
  induction n generalizing seed with
  | zero => simp [laneMul, laneAdd]
  | succ n ih =>
    rw [Function.iterate_succ_apply, ih, nextSeed, laneMul, laneAdd]
    ring

theorem laneSeed_eq_iterate (seed : Word) (j : Nat) : laneSeed seed j = nextSeed^[j + 1] seed :=
  (iterate_nextSeed (j + 1) seed).symm

/-- Settles O28: a lane is an iterate of the recurrence, and iterates commute; the table is by computation. -/
theorem lanesReproduceTheSequence : Obligations.LanesReproduceTheSequence := by
  refine ⟨laneSeed_eq_iterate, fun seed j => ?_, by decide, by decide, by decide, by decide⟩
  calc laneSeed (nextSeed^[4] seed) j
      = nextSeed^[j + 1] (nextSeed^[4] seed) := laneSeed_eq_iterate _ _
    _ = nextSeed^[4] (nextSeed^[j + 1] seed) := Function.Commute.iterate_iterate_self nextSeed (j + 1) 4 seed
    _ = laneSeed seed j * laneMul 4 + laneAdd 4 := by rw [iterate_nextSeed, laneSeed_eq_iterate]

/-! ## DINIT -/

/-- The first value of a context with the default constants (R105). -/
theorem ditherValue_default : ditherValue (initialCtx Config.defaultParams) 0 = 3174 := by decide

theorem exec_dinit_of_lt {k : Nat} {s : State} (hk : k < contexts s) :
    exec (.dinit k) s = .next (finish (s.setDs (s.ds.set k (initialCtx s.params)))) :=
  (exec_dinit k s).trans (onContext_of_lt hk _)

/-- DINIT leaves its context with the initial values (R105). -/
theorem contextAt_dinit {k : Nat} {s : State} (hk : k < contexts s) :
    contextAt (finish (s.setDs (s.ds.set k (initialCtx s.params)))) k = initialCtx s.params := contextAt_setDs_set hk _

/-- Settles O26: `onContext` on either side of N_DCTX, and the first value of the context that DINIT leaves. -/
theorem dinitResult : Obligations.DinitResult := by
  intro s k
  refine ⟨exec_dinit_of_lt, fun hk => (exec_dinit k s).trans (onContext_of_le hk _), fun hk hdefault => ?_⟩
  have hk' : k < contexts (finish (s.setDs (s.ds.set k (initialCtx s.params)))) := hk.trans_eq List.length_set.symm
  refine ⟨_, _, exec_dinit_of_lt hk, onContext_stepOnce hk' _, ?_⟩
  rw [afterScalar_result0, contextAt_dinit hk, hdefault, ditherValue_default]
  rfl

end Sys2Proof.Proofs.Dither

/-! The format selector: which ordinal SELFMT picks from the available set (R120, R121, R123). -/

namespace Sys2Proof.Proofs.FormatSelect

open Sys2Proof.Machine Sys2Proof.Laws Sys2Proof.Claims

/-! ## Operand words -/

theorem stripInterleave_formatWord_toNat (a : Addr) : (stripInterleave (formatWord a)).toNat = a.toNat % 2 ^ 31 := by
  rw [stripInterleave_toNat, formatWord, BitVec.toNat_setWidth]
  exact Nat.mod_mod_of_dvd _ (pow_dvd_pow 2 (by decide))

/-- The block's test of a SampleFormat word is the table of R76. -/
theorem singleFormat_formatWord_eq_some (a : Addr) (f : Format) :
    singleFormat (formatWord a) = some f ↔ Names a f := by
  rw [Names, ← stripInterleave_formatWord_toNat, singleFormat]
  split <;> cases f <;> simp_all [formatBits]

theorem singleFormat_formatWord_eq_none {a : Addr} (h : NamesNone a) : singleFormat (formatWord a) = none :=
  Option.eq_none_iff_forall_ne_some.mpr fun f hf => h f ((singleFormat_formatWord_eq_some a f).mp hf)

/-- Masking A0 leaves the bits of the ordinals 0 to 5 (R120). -/
theorem availableMask_getLsbD (a : Addr) (k : Nat) : (availableMask a).getLsbD k = true ↔ Available a k := by
  have hmask : (0x3F : Word).getLsbD k = decide (k < 6) := Nat.testBit_two_pow_sub_one 6 k
  rw [availableMask, formatWord, BitVec.getLsbD_and, BitVec.getLsbD_setWidth, hmask, ← BitVec.testBit_toNat]
  simp only [Bool.and_eq_true, decide_eq_true_eq]
  constructor
  · rintro ⟨⟨-, hbit⟩, hk⟩
    exact ⟨by omega, hbit⟩
  · rintro ⟨hk, hbit⟩
    exact ⟨⟨by omega, hbit⟩, by omega⟩

/-! ## The order of the scans -/

/-- For the requested ordinal r, the selector tries k no later than j: r before all others, the better ordinals before the
worse ones and in the order FALLBACK_UP asks for, the worse ones nearest first (R121, R123). -/
def NoLater (mode : Config.FallbackUp) (r k j : Nat) : Prop :=
  k = r ∨
  (k < r ∧ j ≠ r ∧ (mode = .nearest → j < r → j ≤ k) ∧ (mode = .best → j < r → k ≤ j)) ∨
  (r < k ∧ k ≤ j)

theorem noLater_refl (mode : Config.FallbackUp) (r k : Nat) : NoLater mode r k k := by
  unfold NoLater
  omega

section NoLater

variable {mode : Config.FallbackUp} {r k j : Nat} (h : NoLater mode r k j)

include h

theorem NoLater.eq_of_requested (hj : j = r) : k = r := by
  unfold NoLater at h
  omega

theorem NoLater.lt_of_better (hk : k ≠ r) (hj : j < r) : k < r := by
  unfold NoLater at h
  omega

theorem NoLater.le_of_nearest (hk : k < r) (hj : j < r) (hmode : mode = .nearest) : j ≤ k := by
  rcases h with hr | ⟨-, -, hnearest, -⟩ | ⟨hr, -⟩
  · exact absurd hr hk.ne
  · exact hnearest hmode hj
  · exact absurd hk hr.asymm

theorem NoLater.le_of_best (hk : k < r) (hmode : mode = .best) : k ≤ j := by
  rcases h with hr | ⟨-, -, -, hbest⟩ | ⟨hr, -⟩
  · exact absurd hr hk.ne
  · exact (Nat.lt_or_ge j r).elim (hbest hmode) hk.le.trans
  · exact absurd hk hr.asymm

theorem NoLater.le_of_worse (hk : r < k) : k ≤ j := by
  unfold NoLater at h
  omega

end NoLater

theorem mem_upScan {mode : Config.FallbackUp} {r k : Nat} : k ∈ upScan mode r ↔ k < r := by
  cases mode <;> simp [upScan]

theorem mem_downScan {r k : Nat} : k ∈ downScan r ↔ r < k ∧ k ≤ 5 := by
  simp only [downScan, List.mem_map, List.mem_range]
  constructor
  · rintro ⟨i, hi, rfl⟩
    omega
  · rintro ⟨hr, hk⟩
    exact ⟨k - (r + 1), by omega, by omega⟩

theorem upScan_pairwise (mode : Config.FallbackUp) (r : Nat) :
    (upScan mode r).Pairwise fun k j => (mode = .nearest → j < k) ∧ (mode = .best → k < j) := by
  cases mode with
  | nearest => simpa [upScan, List.pairwise_reverse] using List.pairwise_lt_range
  | best => simpa [upScan] using List.pairwise_lt_range

theorem downScan_pairwise (r : Nat) : (downScan r).Pairwise (· < ·) :=
  List.pairwise_map.mpr (List.pairwise_lt_range.imp fun h => Nat.add_lt_add_left h _)

/-- The ordinals SELFMT tries, in their order (R121). -/
def candidates (mode : Config.FallbackUp) (r : Nat) : List Nat := r :: (upScan mode r ++ downScan r)

theorem pickFormat_eq_find (mode : Config.FallbackUp) (avail : Word) (r : Nat) :
    pickFormat mode avail r = (candidates mode r).find? fun k => avail.getLsbD k := rfl

theorem mem_candidates {mode : Config.FallbackUp} {r k : Nat} (hr : r ≤ 5) : k ∈ candidates mode r ↔ k ≤ 5 := by
  rw [candidates, List.mem_cons, List.mem_append, mem_upScan, mem_downScan]
  omega

theorem candidates_pairwise (mode : Config.FallbackUp) (r : Nat) :
    (candidates mode r).Pairwise (NoLater mode r) := by
  refine List.pairwise_cons.mpr ⟨fun j _ => .inl rfl, List.pairwise_append.mpr ⟨?_, ?_, fun k hk j hj => ?_⟩⟩
  · refine (upScan_pairwise mode r).imp_of_mem fun {k j} hk hj ⟨hnearest, hbest⟩ => ?_
    rw [mem_upScan] at hk hj
    exact .inr (.inl ⟨hk, hj.ne, fun h _ => (hnearest h).le, fun h _ => (hbest h).le⟩)
  · refine (downScan_pairwise r).imp_of_mem fun {k j} hk _ hlt => ?_
    exact .inr (.inr ⟨(mem_downScan.mp hk).1, hlt.le⟩)
  · rw [mem_upScan] at hk
    rw [mem_downScan] at hj
    unfold NoLater
    omega

/-- The first hit in a list ordered by a reflexive relation stands in that relation to every hit. -/
theorem find_least_of_pairwise {α : Type} {R : α → α → Prop} {p : α → Bool} {l : List α} {a : α}
    (hrefl : ∀ x, R x x) (hl : l.Pairwise R) (hfind : l.find? p = some a) : ∀ b ∈ l, p b = true → R a b := by
  obtain ⟨-, before, after, rfl, hmiss⟩ := List.find?_eq_some_iff_append.mp hfind
  obtain ⟨-, hrest, -⟩ := List.pairwise_append.mp hl
  intro b hb hpb
  rcases List.mem_append.mp hb with hb | hb
  · exact absurd hpb (by simpa using hmiss b hb)
  · rcases List.mem_cons.mp hb with rfl | hb
    · exact hrefl b
    · exact (List.pairwise_cons.mp hrest).1 b hb

/-! ## What the selector picks -/

theorem ordinal_le (f : Format) : ordinal f ≤ 5 := by cases f <;> decide

theorem pickFormat_eq_none {mode : Config.FallbackUp} {a : Addr} {r : Nat} (hr : r ≤ 5) :
    pickFormat mode (availableMask a) r = none ↔ ∀ k, ¬ Available a k := by
  simp only [pickFormat_eq_find, List.find?_eq_none, mem_candidates hr, availableMask_getLsbD]
  exact ⟨fun h k hk => h k hk.1 hk, fun h k _ => h k⟩

/-- The pick is available, and no available ordinal comes before it. -/
theorem pickFormat_eq_some {mode : Config.FallbackUp} {a : Addr} {r k : Nat} (hr : r ≤ 5)
    (h : pickFormat mode (availableMask a) r = some k) :
    Available a k ∧ ∀ j, Available a j → NoLater mode r k j := by
  rw [pickFormat_eq_find] at h
  refine ⟨(availableMask_getLsbD a k).mp (List.find?_some h), fun j hj => ?_⟩
  exact find_least_of_pairwise (noLater_refl mode r) (candidates_pairwise mode r) h j ((mem_candidates hr).mpr hj.1)
    ((availableMask_getLsbD a j).mpr hj)

/-! ## What SELFMT answers -/

theorem exec_selfmt_of_namesNone {s : State} (h : NamesNone s.a1) :
    exec .selfmt s = .next ((s.setResult0 0).setStatus 1) := by
  rw [exec_selfmt, execSelfmt, singleFormat_formatWord_eq_none h]
  rfl

theorem exec_selfmt_of_pick_none {s : State} {f : Format} (hf : Names s.a1 f)
    (hpick : pickFormat s.params.fallbackUp (availableMask s.a0) (ordinal f) = none) :
    exec .selfmt s = .next ((s.setResult0 0).setStatus 1) := by
  simp only [exec_selfmt, execSelfmt, (singleFormat_formatWord_eq_some s.a1 f).mpr hf, hpick]
  rfl

theorem exec_selfmt_of_pick_some {s : State} {f : Format} {k : Nat} (hf : Names s.a1 f)
    (hpick : pickFormat s.params.fallbackUp (availableMask s.a0) (ordinal f) = some k) :
    exec .selfmt s = .next ((s.setResult0 (BitVec.ofNat 32 (2 ^ k))).setStatus 0) := by
  simp only [exec_selfmt, execSelfmt, (singleFormat_formatWord_eq_some s.a1 f).mpr hf, hpick]
  rfl

/-- Settles O31: the pick comes no later than any available ordinal (`pickFormat_eq_some`), and each clause reads that off
the order of the scans. -/
theorem selfmtResult : Obligations.SelfmtResult := by
  refine ⟨fun s => exec_selfmt_of_namesNone, fun s f hf => ⟨?_, fun hnone => ?_⟩⟩
  · rintro ⟨i, hi⟩
    obtain ⟨k, hpick⟩ := Option.ne_none_iff_exists'.mp fun h => (pickFormat_eq_none (ordinal_le f)).mp h i hi
    obtain ⟨hk, hfirst⟩ := pickFormat_eq_some (ordinal_le f) hpick
    have hmissed : ¬ Available s.a0 (ordinal f) → k ≠ ordinal f := fun hr h => hr (h ▸ hk)
    refine ⟨k, hk, exec_selfmt_of_pick_some hf hpick, fun hr => (hfirst _ hr).eq_of_requested rfl,
      fun hr ⟨j, hj, hja⟩ => ?_, fun hr hup j hja => ?_⟩
    · have hbetter : k < ordinal f := (hfirst j hja).lt_of_better (hmissed hr) hj
      exact ⟨hbetter, fun hmode i hi hia => (hfirst i hia).le_of_nearest hbetter hi hmode,
        fun hmode i hia => (hfirst i hia).le_of_best hbetter hmode⟩
    · have hnotBetter : ¬ k < ordinal f := fun h => hup k h hk
      exact (hfirst j hja).le_of_worse (Nat.lt_of_le_of_ne (Nat.le_of_not_lt hnotBetter) (hmissed hr).symm)
  · exact exec_selfmt_of_pick_none hf ((pickFormat_eq_none (ordinal_le f)).mpr hnone)

end Sys2Proof.Proofs.FormatSelect

/-! The converter registry: which CONVID RESOLVE answers for a pair of formats and its two flags (R131, R133, R135, R139). -/

namespace Sys2Proof.Proofs.Registry

open Sys2Proof.Machine Sys2Proof.Laws Sys2Proof.Claims Encoding FormatSelect

/-! ## What RESOLVE answers -/

theorem exec_resolve_of_namesNone {s : State} (c d : Bool) (h : NamesNone s.a0 ∨ NamesNone s.a1) :
    exec (.resolve c d) s = .next ((s.setResult0 0xFFFFFFFF).setStatus 1) := by
  rw [exec_resolve, execResolve]
  rcases h with h0 | h1
  · rw [singleFormat_formatWord_eq_none h0]
    rfl
  · rw [singleFormat_formatWord_eq_none h1]
    cases singleFormat (formatWord s.a0) <;> rfl

section Named

variable {s : State} {src dst : Format} (hsrc : Names s.a0 src) (hdst : Names s.a1 dst) {c d : Bool}

include hsrc hdst

theorem exec_resolve_of_pair_some {id : Nat} (hpair : resolvePair src dst c d = some id) :
    exec (.resolve c d) s = .next ((s.setResult0 (BitVec.ofNat 32 id)).setStatus 0) := by
  simp only [exec_resolve, execResolve, (singleFormat_formatWord_eq_some _ _).mpr hsrc,
    (singleFormat_formatWord_eq_some _ _).mpr hdst, hpair]
  rfl

theorem exec_resolve_of_pair_none (hpair : resolvePair src dst c d = none) :
    exec (.resolve c d) s = .next ((s.setResult0 0xFFFFFFFF).setStatus 2) := by
  simp only [exec_resolve, execResolve, (singleFormat_formatWord_eq_some _ _).mpr hsrc,
    (singleFormat_formatWord_eq_some _ _).mpr hdst, hpair]
  rfl

end Named

/-- Settles O33: `exec_resolve_of_namesNone`. -/
theorem resolveNoFormat : Obligations.ResolveNoFormat := fun _ c d h => exec_resolve_of_namesNone c d h

/-! ## The table -/

/-- The rule of R133 and R134 gives the cells that R135 prints, column FN = CLIPOFF + 2 × DITHEROFF. -/
theorem registryRow_eq_resolvePair (src dst : Format) (c d : Bool) :
    ((registryRow src dst)[c.toNat + 2 * d.toNat]?).join = resolvePair src dst c d := by
  cases src <;> cases dst <;> revert c d <;> decide

/-- Settles O32: the cell of the table is the registry's answer (`registryRow_eq_resolvePair`), and RESOLVE carries either
answer to RESULT0 and STATUS. -/
theorem resolveFollowsTheRegistryTable : Obligations.ResolveFollowsTheRegistryTable := by
  intro s src dst c d hsrc hdst
  rw [registryRow_eq_resolvePair]
  cases hpair : resolvePair src dst c d with
  | some id => exact exec_resolve_of_pair_some hsrc hdst hpair
  | none => exact exec_resolve_of_pair_none hsrc hdst hpair

/-! ## A format to itself -/

/-- A format and itself have no clipping variants (R132). -/
theorem hasC_self (f : Format) : hasC f f = false := by cases f <;> rfl

/-- A format is not narrower than itself, so the pair has no dithering variants (R132). -/
theorem hasD_self (f : Format) : hasD f f = false := by simp [hasD, hasC_self]

/-- A pair without variants has one CONVID, whatever the flags (R133). -/
theorem resolvePair_self (f : Format) (c d : Bool) : resolvePair f f c d = some (convId f f false false) := by
  simp [resolvePair, hasC_self, hasD_self]

/-- The CONVID of a format to itself is that of its copy (R75). -/
theorem decodeConvId_copy {r : Row} (hr : r ∈ copies) (k : Nat) :
    decodeConvId (convId r.src r.src false false) k = some (r.command k) := by
  fin_cases hr <;> rfl

theorem convId_self_lt (f : Format) : convId f f false false < 256 := by cases f <;> decide

/-- A RUN word whose CONVID the converter list names decodes to that converter (R72, R75). -/
theorem decode_run {id k : Nat} {i : Instr} (hid : id < 256) (hk : k < 256) (h : decodeConvId id k = some i) :
    decode (commandWord 0x01 id k) = .command i :=
  (decode_commandWord (by decide) hid hk).trans (withFunction_eq_command.mpr h)

/-- Settles O34: both flags are ignored for a format and itself (`resolvePair_self`), and the answer fits FN, where the decoder
reads it as the copy (`decodeConvId_copy`). -/
theorem unityPathIsCopy : Obligations.UnityPathIsCopy := by
  intro r hr s c d k hsrc hdst hk
  have hid := convId_self_lt r.src
  refine ⟨_, exec_resolve_of_pair_some hsrc hdst (resolvePair_self r.src c d), rfl, ?_⟩
  have hresult : (BitVec.ofNat 32 (convId r.src r.src false false)).toNat = convId r.src r.src false false :=
    Nat.mod_eq_of_lt (by omega)
  rw [setStatus_result0, setResult0_result0, hresult]
  exact decode_run hid hk (decodeConvId_copy hr k)

end Sys2Proof.Proofs.Registry

/-! A RUN over no samples: with count 0 it loads its working registers, ends with OK and does nothing else (R157). -/

namespace Sys2Proof.Proofs.CountZero

open Sys2Proof.Machine Sys2Proof.Laws Sys2Proof.Claims Memory

/-- A RUN whose checks pass and whose operands are good runs its loop and ends with OK, in any state at all: that it ends does
not rest on the invariant. -/
theorem runConverter_completes {c : Converter} {k : Nat} {s : State}
    (himpl : c.dither = true → (c.src, c.dst) ∉ Config.unimpl) (hk : c.dither = true → k < contexts s)
    (hready : RunReady s c.src c.dst) :
    runConverter c k s = .next (finish (runLoop c k s.a4.toNat s.a4.toNat (startRun s))) := by
  rcases runConverter_cases c k s with ⟨hd, hun, -⟩ | ⟨hcheck, -⟩ | ⟨why, hbreach, -⟩ | ⟨-, -, hrun⟩
  · exact absurd hun (himpl hd)
  · rcases hcheck with ⟨hd, hle⟩ | h | h
    · exact absurd (hk hd) (Nat.not_lt.mpr hle)
    · exact absurd h hready.dstStride
    · exact absurd h hready.srcStride
  · have hnone := (runBreach_none_iff s c.src c.dst).mpr hready.buffers
    exact nomatch hbreach.symm.trans hnone
  · exact hrun

/-- No sample, no byte accessed: the buffers carry no duty (R157, log 7). -/
theorem runReady_of_countZero {s : State} {src dst : Format} (h1 : s.a1 ≠ 0) (h3 : s.a3 ≠ 0) (h4 : s.a4 = 0) :
    RunReady s src dst :=
  { dstStride := h1, srcStride := h3, buffers := .inl (by rw [h4]; rfl) }

/-- The loop is entered for no sample, so the working registers hold what the start of the RUN loaded (R157, log 8). -/
theorem runConverter_countZero {c : Converter} {k : Nat} {s : State}
    (himpl : c.dither = true → (c.src, c.dst) ∉ Config.unimpl) (hk : c.dither = true → k < contexts s)
    (h1 : s.a1 ≠ 0) (h3 : s.a3 ≠ 0) (h4 : s.a4 = 0) :
    runConverter c k s = .next ((s.setWork { sp := s.a2, dp := s.a0, n := s.a4 }).setStatus 0) := by
  have hcount : s.a4.toNat = 0 := by rw [h4]; rfl
  rw [runConverter_completes himpl hk (runReady_of_countZero h1 h3 h4), hcount]
  rfl

/-- Settles O39: every row runs a converter (`plainRows_runAs`, `ditheringRows_runAs`), and `runConverter_countZero` gives its
whole next state. -/
theorem countZeroDoesNothing : Obligations.CountZeroDoesNothing := by
  refine ⟨fun r hr s k h1 h3 h4 => ?_, fun r hr s k hk h1 h3 h4 => ?_⟩
  · obtain ⟨c, ⟨-, -, hexec⟩, hplain⟩ := plainRows_runAs hr
    rw [hexec]
    exact ⟨_, runConverter_countZero (by simp [hplain]) (by simp [hplain]) h1 h3 h4, rfl⟩
  · obtain ⟨c, ⟨hsrc, hdst, hexec⟩, -⟩ := ditheringRows_runAs hr
    have himpl := ditheringRows_implemented r hr
    rw [← hsrc, ← hdst] at himpl
    rw [hexec]
    exact ⟨_, runConverter_countZero (fun _ => himpl) (fun _ => hk) h1 h3 h4, rfl⟩

end Sys2Proof.Proofs.CountZero

/-! The Float32 to integer converters: what the kernel F2I gives in plain arithmetic (R170, R191), the headroom of its dithered
scale (R192), a RUN of each converter on the reference path, and the round trip through Int32 (R194). -/

namespace Sys2Proof.Proofs.FloatToFixed

open Sys2Proof.Machine Sys2Proof.Laws Sys2Proof.Claims Scope

/-! ## Truncation toward zero -/

theorem truncRat_eq_towardZero (q : ℚ) : truncRat q = towardZero q := truncRat_eq q

theorem towardZero_of_nonneg {q : ℚ} (h : 0 ≤ q) : towardZero q = ⌊q⌋ := if_pos h

theorem towardZero_of_neg {q : ℚ} (h : q < 0) : towardZero q = ⌈q⌉ := if_neg h.not_ge

/-- Truncation does not lead away from zero. -/
theorem abs_towardZero_le (q : ℚ) : |(towardZero q : ℚ)| ≤ |q| := by
  rcases le_or_gt 0 q with h | h
  · have hfloor : (0 : ℚ) ≤ ⌊q⌋ := by exact_mod_cast Int.floor_nonneg.mpr h
    rw [towardZero_of_nonneg h, abs_of_nonneg hfloor, abs_of_nonneg h]
    exact Int.floor_le q
  · have hceil : (⌈q⌉ : ℚ) ≤ 0 := by exact_mod_cast Int.ceil_le.mpr (by simpa using h.le)
    rw [towardZero_of_neg h, abs_of_nonpos hceil, abs_of_neg h]
    exact neg_le_neg (Int.le_ceil q)

theorem abs_towardZero_sub_lt (q : ℚ) : |(towardZero q : ℚ) - q| < 1 := by
  rw [abs_lt]
  rcases le_or_gt 0 q with h | h
  · rw [towardZero_of_nonneg h]
    constructor <;> linarith [Int.floor_le q, Int.lt_floor_add_one q]
  · rw [towardZero_of_neg h]
    constructor <;> linarith [Int.le_ceil q, Int.ceil_lt_add_one q]

theorem truncInRange_of_mem {v : ℚ} {lo hi : ℤ} (hlo : lo ≤ towardZero v) (hhi : towardZero v ≤ hi) :
    truncInRange v lo hi = some (towardZero v) := by
  rw [truncInRange, truncRat_eq_towardZero, if_neg (by omega)]

/-! ## The constants of a destination -/

theorem highBound_eq (f : Format) : highBound f = maxMagnitude f := by cases f <;> rfl

theorem lowBound_eq {f : Format} (hf : f ≠ .f32) : lowBound f = -maxMagnitude f - 1 := by
  cases f
  case f32 => exact absurd rfl hf
  all_goals rfl

theorem maxMagnitude_pos (f : Format) : 0 < maxMagnitude f := by cases f <;> decide

theorem magnitude_eq (f : Format) : magnitude f = maxMagnitude f := by cases f <;> norm_num [magnitude, maxMagnitude]

theorem lowest_eq {f : Format} (hf : f ≠ .f32) : lowest f = lowBound f := by
  rw [lowest, magnitude_eq, lowBound_eq hf]
  push_cast
  rfl

theorem lowest_le_magnitude (f : Format) : lowest f ≤ magnitude f := by
  have hpos : (0 : ℚ) < maxMagnitude f := by exact_mod_cast maxMagnitude_pos f
  rw [lowest, magnitude_eq]
  linarith

/-! ## The kernel in plain arithmetic -/

/-- The model's value before the clamp is R170's, the dither value being d / 32767. -/
theorem scaledValue_eq (f : Format) (x : ℚ) (d : ℤ) (dither : Bool) :
    scaledValue x d (maxMagnitude f) dither = scaled f dither false x d := by
  cases dither <;>
    simp [scaledValue, scaled, scaleFor, floatDither, Config.ditherDenominator, magnitude_eq, Rat.mkRat_eq_div]

theorem scaled_clip (f : Format) (dither : Bool) (x : ℚ) (d : ℤ) :
    scaled f dither true x d = max (lowest f) (min (scaled f dither false x d) (magnitude f)) := rfl

/-- A finite sample is scaled, dithered and clamped as R170 says, then truncated. -/
theorem f2i_finite {f : Format} (hf : f ≠ .f32) {p : Word} {x : ℚ} (hp : fval p = .finite x) (d : ℤ) (dither clip : Bool) :
    f2i p d (maxMagnitude f) (lowBound f) (highBound f) dither clip =
      truncInRange (scaled f dither clip x d) (lowBound f) (highBound f) := by
  have hhigh : ((highBound f : ℤ) : ℚ) = magnitude f := by rw [highBound_eq, magnitude_eq]
  simp only [f2i, hp, scaledValue_eq, Rat.mkRat_eq_div, Nat.cast_one, div_one, ← lowest_eq hf, hhigh]
  cases clip
  · rfl
  · rw [if_pos rfl, clampRat_eq (lowest_le_magnitude f), scaled_clip]

/-- A finite sample whose truncated value lies in the destination's range gives that value. -/
theorem f2i_inRange {f : Format} (hf : f ≠ .f32) {p : Word} {x : ℚ} (hp : fval p = .finite x) {d : ℤ} {dither clip : Bool}
    (hlo : lowBound f ≤ towardZero (scaled f dither clip x d)) (hhi : towardZero (scaled f dither clip x d) ≤ maxMagnitude f) :
    f2i p d (maxMagnitude f) (lowBound f) (highBound f) dither clip = some (towardZero (scaled f dither clip x d)) := by
  rw [f2i_finite hf hp]
  exact truncInRange_of_mem hlo (by rwa [highBound_eq])

theorem f2i_posInf {p : Word} (hp : fval p = .posInf) (d m lo hi : ℤ) (dither : Bool) :
    f2i p d m lo hi dither true = some hi := by
  simp [f2i, hp]

theorem f2i_negInf {p : Word} (hp : fval p = .negInf) (d m lo hi : ℤ) (dither : Bool) :
    f2i p d m lo hi dither true = some lo := by
  simp [f2i, hp]

/-! ## Headroom -/

/-- The dithered scale leaves one unit of room, and the dither value is below one unit (R192). -/
theorem abs_scaled_dither_lt (f : Format) {x : ℚ} {d : ℤ} (hx : |x| ≤ 1) (h1 : -32766 ≤ d) (h2 : d ≤ 32766) :
    |scaled f true false x d| < maxMagnitude f := by
  have hscale : (0 : ℚ) ≤ maxMagnitude f - 1 := by
    have : (1 : ℚ) ≤ maxMagnitude f := by exact_mod_cast maxMagnitude_pos f
    linarith
  have hdither : |(d : ℚ) / 32767| < 1 := by
    have h1' : (-32766 : ℚ) ≤ d := by exact_mod_cast h1
    have h2' : (d : ℚ) ≤ 32766 := by exact_mod_cast h2
    rw [abs_lt]
    constructor <;> linarith
  calc |scaled f true false x d| = |x * (maxMagnitude f - 1) + (d : ℚ) / 32767| := by simp [scaled, magnitude_eq]
    _ ≤ |x * (maxMagnitude f - 1)| + |(d : ℚ) / 32767| := abs_add_le _ _
    _ = |x| * (maxMagnitude f - 1) + |(d : ℚ) / 32767| := by rw [abs_mul, abs_of_nonneg hscale]
    _ ≤ 1 * (maxMagnitude f - 1) + |(d : ℚ) / 32767| := by gcongr
    _ < maxMagnitude f := by linarith

/-- The clamp leaves a value of magnitude below M as it is. -/
theorem scaled_clip_of_abs_lt {f : Format} {dither : Bool} {x : ℚ} {d : ℤ}
    (h : |scaled f dither false x d| < maxMagnitude f) (clip : Bool) :
    scaled f dither clip x d = scaled f dither false x d := by
  obtain ⟨hlo, hhi⟩ := abs_lt.mp h
  cases clip
  · rfl
  · rw [scaled_clip, lowest, magnitude_eq, min_eq_left hhi.le, max_eq_right (by linarith)]

/-- Settles O54: the value before the clamp is below M in magnitude, and truncation does not enlarge it. -/
theorem headroomHolds : Obligations.HeadroomHolds := by
  intro f hmem p x d hp hx h1 h2 clip
  have hf : f ≠ .f32 := by rintro rfl; exact absurd hmem (by decide)
  have hbelow := abs_scaled_dither_lt f hx h1 h2
  have hclip := scaled_clip_of_abs_lt hbelow clip
  have hresult : |towardZero (scaled f true clip x d)| < maxMagnitude f := by
    rw [hclip]
    exact_mod_cast (abs_towardZero_le _).trans_lt hbelow
  obtain ⟨hlo, hhi⟩ := abs_lt.mp hresult
  exact ⟨_, f2i_inRange hf hp (by rw [lowBound_eq hf]; omega) hhi.le, by omega⟩

/-! ## Stored patterns -/

theorem stored_toNat {f : Format} (hf : f ≠ .f32) (r : ℤ) :
    ((stored f r).toNat : ℤ) = (r + if f = .u8 then 128 else 0) % 2 ^ sampleBits f := by
  cases f
  case f32 => exact absurd rfl hf
  all_goals
    simp [stored, sampleBits, elemSize]
    omega

theorem stored_eq_patternOf {f : Format} (hf : f ≠ .f32) (r : ℤ) : stored f r = patternOf f r := by
  apply BitVec.eq_of_toNat_eq
  exact_mod_cast (stored_toNat hf r).trans (patternOf_toNat f r).symm

/-- Int24 keeps the three high bytes, which are the low 24 bits of the floor of r / 256 (R57, R175). -/
theorem fixedPattern_i24 (r : ℤ) : fixedPattern .i24 r = patternOf .i24 (r / 2 ^ 8) := by
  change patternOf .i24 (r >>> (8 : ℕ)) = _
  rw [Int.shiftRight_eq_div_pow]
  rfl

theorem fixedPattern_of_ne {f : Format} (hf : f ≠ .i24) (r : ℤ) : fixedPattern f r = patternOf f r := by
  cases f
  case i24 => exact absurd rfl hf
  all_goals rfl

theorem fixedPattern_lt (f : Format) (r : ℤ) : (fixedPattern f r).toNat < 2 ^ sampleBits f := by
  by_cases h24 : f = .i24
  · rw [h24, fixedPattern_i24]
    exact patternOf_lt _ _
  · rw [fixedPattern_of_ne h24]
    exact patternOf_lt _ _

theorem fixedPattern_eq_storedFixed {f : Format} (hf : f ≠ .f32) (r : ℤ) : fixedPattern f r = storedFixed f r := by
  by_cases h24 : f = .i24
  · subst h24
    rw [fixedPattern_i24, storedFixed, if_pos rfl, stored_eq_patternOf hf]
  · rw [fixedPattern_of_ne h24, storedFixed, if_neg h24, stored_eq_patternOf hf]

/-! ## The kernel of a converter -/

/-- A converter's element is the stored pattern of the kernel's integer. -/
theorem floatToFixed_of_f2i {f : Format} (hf : f ≠ .f32) {dither clip : Bool} {p : Word} {d r : ℤ}
    (h : f2i p d (maxMagnitude f) (lowBound f) (highBound f) dither clip = some r) :
    floatToFixed f dither clip p d = some (storedFixed f r) := by
  rw [floatToFixed, h, Option.map_some, fixedPattern_eq_storedFixed hf]

/-- A plain or clipping converter does not look at the dither value (R154). -/
theorem floatToFixed_plain (f : Format) (clip : Bool) (p : Word) (d d' : ℤ) :
    floatToFixed f false clip p d = floatToFixed f false clip p d' := rfl

theorem floatToFixed_lt {f : Format} {dither clip : Bool} {p q : Word} {d : ℤ}
    (h : floatToFixed f dither clip p d = some q) : q.toNat < 2 ^ sampleBits f := by
  obtain ⟨r, -, rfl⟩ := Option.map_eq_some_iff.mp h
  exact fixedPattern_lt f r

/-- R170 and R191 hold of an element that is the kernel's whenever the kernel does not draw: in each of their three cases it
does not. -/
theorem fixedElement_of_floatToFixed {f : Format} (hf : f ≠ .f32) {dither clip : Bool} {p o : Word} {d : ℤ}
    (h : ∀ q, floatToFixed f dither clip p d = some q → o = q) : FixedElement f dither clip p d o := by
  have hfloorHigh : ⌊magnitude f⌋ = highBound f := by rw [magnitude_eq, Int.floor_intCast, highBound_eq]
  have hfloorLow : ⌊lowest f⌋ = lowBound f := by rw [lowest_eq hf, Int.floor_intCast]
  refine ⟨fun x hp hlo hhi => ?_, fun hclip hp => ?_, fun hclip hp => ?_⟩
  · rw [lowest_eq hf] at hlo
    rw [magnitude_eq] at hhi
    exact h _ (floatToFixed_of_f2i hf (f2i_inRange hf hp (by exact_mod_cast hlo) (by exact_mod_cast hhi)))
  · subst hclip
    rw [hfloorHigh]
    exact h _ (floatToFixed_of_f2i hf (f2i_posInf hp ..))
  · subst hclip
    rw [hfloorLow]
    exact h _ (floatToFixed_of_f2i hf (f2i_negInf hp ..))

/-! ## A RUN on the reference path -/

/-- A finished loop leaves exactly what R152 says a RUN leaves. -/
theorem runFrame_of_runAt {c : Converter} {k : Nat} {s t : State} (h : RunAt c k s t s.a4.toNat) :
    RunFrame s (finish t) c.dst c.dither k where
  status := rfl
  registers :=
    ⟨h.registers.params, h.registers.w, h.registers.a0, h.registers.a1, h.registers.a2, h.registers.a3, h.registers.a4,
      h.registers.ctrl, h.registers.alloc, h.registers.host⟩
  results := ⟨h.results.result0, h.results.result1, h.results.result2, h.results.result3⟩
  contexts := h.contexts
  memory := h.memory

/-- Off the accelerated path, or with tolerance 0, a sample that does not draw leaves its reference value (R156, R282). -/
theorem sampleOk_eq_of_exact {c : Converter} {accelerated : Bool} {ref : Option Word} {o q : Word}
    (h : SampleOk c accelerated ref o) (hexact : accelerated = false ∨ c.tol = 0) (href : ref = some q)
    (hq : q.toNat < 2 ^ sampleBits c.dst) : o = q := by
  have hpath : (accelerated && c.tol != 0) = false := by rcases hexact with h | h <;> simp [h]
  rw [← keepBits_of_lt hq]
  simpa [SampleOk, href, hpath] using h

theorem fromFloats_dst : ∀ r ∈ fromFloats, r.dst ≠ .f32 := by decide

/-- No Float32 source is among the unimplemented pairs (R244). -/
theorem f32_implemented (f : Format) : (Format.f32, f) ∉ Config.unimpl := by cases f <;> decide

/-- The dither value the loop hands to the kernel is the sample's own, or one that the kernel ignores. -/
theorem floatToFixed_sampleDither (f : Format) (dither clip : Bool) (p : Word) (d : ℤ) :
    floatToFixed f dither clip p (if dither then d else 0) = floatToFixed f dither clip p d := by
  cases dither
  · exact floatToFixed_plain ..
  · rfl

/-- Settles O46: `runConverter_ready` says what the RUN leaves, and each element is the kernel's. -/
theorem floatToIntegerRuns : Obligations.FloatToIntegerRuns := by
  intro r hr s k hinv hk hready
  obtain ⟨hsrc, -, hexec⟩ := Memory.fromFloats_runAs r hr
  change Format.f32 = r.src at hsrc
  rw [← hsrc] at hready ⊢
  obtain ⟨t, hrun, heq⟩ := runConverter_ready (c := floatConverter r.dst r.dither r.clip r.tol)
    (fun ⟨_, hun⟩ => f32_implemented _ hun) hk hready hinv.memory hinv.a0 hinv.a2 hinv.a4
  refine ⟨finish t, by rw [hexec, heq], runFrame_of_runAt hrun, fun hexact i hi => ?_⟩
  have hsample := hrun.elements i hi
  refine fixedElement_of_floatToFixed (fromFloats_dst r hr) fun q hq => ?_
  exact sampleOk_eq_of_exact hsample (hexact.imp_left fun h => by rw [h, Bool.false_and])
    ((floatToFixed_sampleDither ..).trans hq) (floatToFixed_lt hq)

/-! ## Rounding what a significand can hold -/

/-- No value with a significand of 24 bits is nearer to q than the value `rne32` gives (R9). -/
theorem rne32_nearest {q : ℚ} (h : |q| ≤ 1) :
    ∃ g, fval (rne32 q) = .finite g ∧ ∀ x, HasSignificand x → |g - q| ≤ |x - q| := by
  by_cases h0 : q = 0
  · have hzero : rne32 q = 0 := by rw [rne32, if_pos h0]
    have hval : fval 0 = .finite 0 := by decide +kernel
    rw [hzero, h0]
    exact ⟨0, hval, fun x _ => by simp⟩
  · obtain ⟨e, n, -, -, hval, hnearest⟩ := rne32_spec h h0
    exact ⟨_, hval, fun x hx => (hnearest x hx).1⟩

/-- Rounding keeps what a significand of 24 bits can hold. -/
theorem rne32_exact {q : ℚ} (h : |q| ≤ 1) (hq : HasSignificand q) : fval (rne32 q) = .finite q := by
  obtain ⟨g, hval, hnearest⟩ := rne32_nearest h
  have hzero : |g - q| ≤ 0 := by simpa using hnearest q hq
  rw [hval, sub_eq_zero.mp (abs_nonpos_iff.mp hzero)]

/-- From 2^-7 on the finite values of binary32 are multiples of 2^-30. -/
theorem hasSignificand_multiple_of_large {x : ℚ} (h : HasSignificand x) (hx : 1 / 2 ^ 7 ≤ |x|) :
    ∃ k : ℤ, x * 2 ^ 30 = k := by
  have hnonneg : ∀ y : ℚ, HasSignificand y → 1 / 2 ^ 7 ≤ y → ∃ k : ℤ, y * 2 ^ 30 = k := fun y hy hle => by
    rcases hy.integer_or_small 119 with hint | ⟨-, hsmall⟩
    · simpa using hint
    · norm_num at hsmall hle
      linarith
  rcases le_abs.mp hx with hx | hx
  · exact hnonneg x h hx
  · obtain ⟨k, hk⟩ := hnonneg (-x) h.neg hx
    exact ⟨-k, by push_cast; linarith⟩

theorem hasSignificand_two_pow_neg_seven : HasSignificand (1 / 2 ^ 7) := ⟨1, 142, by norm_num, by norm_num⟩

/-- A value nearest to a q of at least 2^-7 is at least 2^-7 too, as 2^-7 is itself a finite value. -/
theorem large_of_nearest {q g : ℚ} (hq : 1 / 2 ^ 7 ≤ |q|) (hnearest : ∀ x, HasSignificand x → |g - q| ≤ |x - q|) :
    1 / 2 ^ 7 ≤ |g| := by
  rcases le_abs.mp hq with hq | hq
  · have hdist := hnearest _ hasSignificand_two_pow_neg_seven
    rw [abs_sub_comm (1 / 2 ^ 7) q, abs_of_nonneg (a := q - 1 / 2 ^ 7) (by linarith)] at hdist
    exact le_abs.mpr (.inl (by linarith [(abs_le.mp hdist).1]))
  · have hdist := hnearest _ hasSignificand_two_pow_neg_seven.neg
    rw [abs_of_nonneg (a := -(1 / 2 ^ 7) - q) (by linarith)] at hdist
    exact le_abs.mpr (.inr (by linarith [(abs_le.mp hdist).2]))

/-! ## The round trip through Int32 -/

/-- Two multiples of 2^-30 less than 2^-29 apart are at most 2^-30 apart. -/
theorem abs_sub_le_of_multiples {x y : ℚ} {k l : ℤ} (hx : x * 2 ^ 30 = k) (hy : y * 2 ^ 30 = l)
    (h : |x - y| < 2 / 2 ^ 30) : |x - y| ≤ 1 / 2 ^ 30 := by
  have hscaled : |x - y| * 2 ^ 30 = ((|k - l| : ℤ) : ℚ) := by
    push_cast
    rw [← hx, ← hy, ← sub_mul, abs_mul, abs_of_pos (a := (2 : ℚ) ^ 30) (by positivity)]
  have hlt : |k - l| < 2 := by
    have : ((|k - l| : ℤ) : ℚ) < 2 := by rw [← hscaled]; linarith
    exact_mod_cast this
  have hle : ((|k - l| : ℤ) : ℚ) ≤ 1 := by exact_mod_cast Int.lt_add_one_iff.mp hlt
  rw [← hscaled] at hle
  linarith

/-- An Int32 quotient between zero and a finite value f, and near f, rounds to within 2^-30 of f: below 2^-7 it is exact, and
above, f and the rounded value are multiples of 2^-30 (R194). -/
theorem rne32_quotient_near {f : ℚ} {n : ℤ} (hf : HasSignificand f) (hle : |(n : ℚ) / 2 ^ 31| ≤ |f|) (h1 : |f| ≤ 1)
    (hnear : |(n : ℚ) / 2 ^ 31 - f| < 1 / 2 ^ 30) :
    ∃ g, fval (rne32 ((n : ℚ) / 2 ^ 31)) = .finite g ∧ |g - f| ≤ 1 / 2 ^ 30 := by
  by_cases hsmall : |n| < 2 ^ 24
  · have hsig : HasSignificand ((n : ℚ) / 2 ^ 31) := ⟨n, 118, hsmall, by norm_num [div_eq_mul_inv]⟩
    exact ⟨_, rne32_exact (hle.trans h1) hsig, hnear.le⟩
  · have hlarge : 1 / 2 ^ 7 ≤ |(n : ℚ) / 2 ^ 31| := by
      have : (2 : ℚ) ^ 24 ≤ |(n : ℚ)| := by exact_mod_cast not_lt.mp hsmall
      rw [abs_div, abs_of_pos (a := (2 : ℚ) ^ 31) (by positivity)]
      linarith
    obtain ⟨g, hval, hnearest⟩ := rne32_nearest (hle.trans h1)
    obtain ⟨k, hk⟩ := hasSignificand_multiple_of_large (hasSignificand_of_fval hval) (large_of_nearest hlarge hnearest)
    obtain ⟨l, hl⟩ := hasSignificand_multiple_of_large hf (hlarge.trans hle)
    have hdist : |g - f| < 2 / 2 ^ 30 :=
      calc |g - f| ≤ |g - (n : ℚ) / 2 ^ 31| + |(n : ℚ) / 2 ^ 31 - f| := abs_sub_le _ _ _
        _ ≤ |f - (n : ℚ) / 2 ^ 31| + |(n : ℚ) / 2 ^ 31 - f| := add_le_add (hnearest f hf) le_rfl
        _ < 2 / 2 ^ 30 := by rw [abs_sub_comm f]; linarith
    exact ⟨g, hval, abs_sub_le_of_multiples hk hl hdist⟩

theorem scaled_i32_plain (x : ℚ) (d : ℤ) : scaled .i32 false false x d = x * 2147483647 := rfl

/-- The Int32 value over 2^31 lies between zero and f, and within 1.99 * 2^-31 of f (R194). -/
theorem towardZero_quotient_near {f : ℚ} (hf : |f| ≤ 99 / 100) :
    |(towardZero (f * 2147483647) : ℚ) / 2 ^ 31| ≤ |f| ∧ |(towardZero (f * 2147483647) : ℚ) / 2 ^ 31 - f| < 1 / 2 ^ 30 := by
  have hle := abs_towardZero_le (f * 2147483647)
  have hnear := abs_towardZero_sub_lt (f * 2147483647)
  generalize (towardZero (f * 2147483647) : ℚ) = n at *
  rw [abs_mul, abs_of_pos (a := (2147483647 : ℚ)) (by norm_num)] at hle
  constructor
  · rw [abs_div, abs_of_pos (a := (2 : ℚ) ^ 31) (by positivity)]
    linarith [abs_nonneg f]
  · obtain ⟨hf1, hf2⟩ := abs_le.mp hf
    obtain ⟨hn1, hn2⟩ := abs_lt.mp hnear
    rw [abs_lt]
    constructor <;> linarith

theorem logical_i32 (p : Word) : logical .i32 p = p.toInt := (BitVec.toInt_eq_toNat_bmod p).symm

theorem stored_i32 (r : ℤ) : stored .i32 r = BitVec.ofInt 32 r := rfl

/-- An Int32 pattern's logical value is the integer it was stored from. -/
theorem logical_stored_i32 {r : ℤ} (h1 : -2 ^ 31 ≤ r) (h2 : r < 2 ^ 31) : logical .i32 (stored .i32 r) = r := by
  rw [logical_i32, stored_i32, BitVec.toInt_ofInt, Int.bmod_eq_of_le] <;> omega

/-- Settles O58: the kernel truncates f * (2^31 - 1), and its quotient by 2^31 rounds to within 2^-30 of f. -/
theorem roundTripWithinTwoToMinusThirty : Obligations.RoundTripWithinTwoToMinusThirty := by
  intro p f d hp hf
  obtain ⟨hle, hnear⟩ := towardZero_quotient_near hf
  have hmag : |towardZero (f * 2147483647)| < 2147483647 := by
    have : |(towardZero (f * 2147483647) : ℚ)| < 2147483647 := by
      refine (abs_towardZero_le _).trans_lt ?_
      rw [abs_mul, abs_of_pos (a := (2147483647 : ℚ)) (by norm_num)]
      linarith
    exact_mod_cast this
  obtain ⟨hlo, hhi⟩ := abs_lt.mp hmag
  have hresult := f2i_inRange (f := .i32) (by decide) hp (d := d) (dither := false) (clip := false)
    (by rw [scaled_i32_plain, lowBound]; omega) (by rw [scaled_i32_plain]; exact hhi.le)
  rw [scaled_i32_plain] at hresult
  obtain ⟨g, hval, hg⟩ := rne32_quotient_near (hasSignificand_of_fval hp) hle (hf.trans (by norm_num)) hnear
  have hlogical : logical .i32 (storedFixed .i32 (towardZero (f * 2147483647))) = towardZero (f * 2147483647) :=
    logical_stored_i32 (by omega) (by omega)
  exact ⟨_, g, floatToFixed_of_f2i (by decide) hresult, by rw [hlogical]; exact hval, hg⟩

end Sys2Proof.Proofs.FloatToFixed

/-! The integer sources: a RUN of every plain exact converter, the integer to Float32 kernel and its exactness (R200), the
widening and offset kernels as operations on bits (R206 to R217), and narrowing as the inverse of widening (R218). -/

namespace Sys2Proof.Proofs.FixedToFloat

open Sys2Proof.Machine Sys2Proof.Laws Sys2Proof.Claims Scope Memory FloatToFixed

/-! ## A RUN of a plain converter with an exact kernel -/

/-- A plain converter with tolerance 0 whose kernel never draws leaves the kernel's value in every destination element, on
either path (R150 to R156, R282). -/
theorem plainRun_elements {r : Row} {c : Converter} (hruns : RunsAs r c) (hplain : c.dither = false) (htol : c.tol = 0)
    {g : Word → Word} (hkernel : ∀ p, p.toNat < 2 ^ sampleBits r.src → c.kernel p 0 = some (g p))
    (hfits : ∀ p, p.toNat < 2 ^ sampleBits r.src → (g p).toNat < 2 ^ sampleBits r.dst)
    {s : State} (k : Nat) (hinv : StateInv s) (hready : RunReady s r.src r.dst) :
    ∃ t, exec (r.command k) s = .next t ∧ RunFrame s t r.dst false k ∧ ElementsAre s t r.src r.dst k fun p _ => g p := by
  obtain ⟨hsrc, hdst, hexec⟩ := hruns
  rw [← hsrc] at hkernel hfits hready ⊢
  rw [← hdst] at hfits hready ⊢
  obtain ⟨t, hrun, heq⟩ := runConverter_ready (c := c) (k := k) (by simp [hplain]) (by simp [hplain]) hready hinv.memory
    hinv.a0 hinv.a2 hinv.a4
  have hframe := runFrame_of_runAt hrun
  rw [hplain] at hframe
  refine ⟨finish t, by rw [hexec, heq], hframe, fun i hi => ?_⟩
  have hsample := hrun.elements i hi
  rw [hplain] at hsample
  have hsource : (elemAt s c.src (srcAddr s c.src i)).toNat < 2 ^ sampleBits c.src := loadElem_lt ..
  exact sampleOk_eq_of_exact hsample (.inr htol) (hkernel _ hsource) (hfits _ hsource)

/-! ## Integer to Float32 -/

theorem i2f_eq (n : ℤ) (bits : ℕ) : i2f n bits = rne32 ((n : ℚ) / 2 ^ (bits - 1)) := by
  rw [i2f, Rat.mkRat_eq_div]
  push_cast
  rfl

/-- The model's logical value is that of R58, whatever stands above the sample's bits. -/
theorem logicalValue_eq_logical {f : Format} (hf : f ≠ .f32) (p : Word) : logicalValue f p = logical f p := by
  have hsigned : ∀ bits : ℕ, signedBits bits p = Int.bmod p.toNat (2 ^ bits) := fun bits => by
    rw [signedBits, BitVec.toInt_eq_toNat_bmod, BitVec.toNat_setWidth]
    push_cast
    exact Int.emod_bmod ..
  cases f
  case f32 => exact absurd rfl hf
  case u8 => exact congrArg (fun n : ℕ => (n : ℤ) - 128) (keepBits_toNat (by decide) p)
  all_goals exact hsigned _

theorem fixedToFloat_eq {f : Format} (hf : f ≠ .f32) (p : Word) (d : ℤ) :
    fixedToFloat f p d = some (rne32 ((logical f p : ℚ) / 2 ^ (sampleBits f - 1))) := by
  rw [fixedToFloat, i2f_eq, logicalValue_eq_logical hf]

theorem toFloats_formats : ∀ r ∈ toFloats, r.src ≠ .f32 ∧ r.dst = .f32 := by decide

/-- Settles O44: the kernel is the one rounding of n / 2^(B-1), and every pattern fits a Float32 element. -/
theorem integerToFloatRuns : Obligations.IntegerToFloatRuns := by
  intro r hr s k hinv hready
  obtain ⟨hsrc, hdst⟩ := toFloats_formats r hr
  refine plainRun_elements (toFloats_runAs r hr) rfl rfl (fun p _ => fixedToFloat_eq hsrc p 0) (fun p _ => ?_) k hinv hready
  rw [hdst]
  exact BitVec.isLt _

/-- A value of at most 24 sample bits, divided by a power of two, is a signed significand of binary32 (R9). -/
theorem hasSignificand_div_two_pow {n : ℤ} (hn : |n| < 2 ^ 24) {k : ℕ} (hk : k ≤ 149) : HasSignificand ((n : ℚ) / 2 ^ k) := by
  refine ⟨n, 149 - k, hn, ?_⟩
  have hexp : ((149 - k : ℕ) : ℤ) - 149 = -(k : ℤ) := by omega
  rw [hexp, zpow_neg, zpow_natCast, div_eq_mul_inv]

/-- The value before rounding lies between -1 and 1 (R200). -/
theorem abs_div_two_pow_le_one {n : ℤ} {k : ℕ} (hn : |n| ≤ 2 ^ k) : |(n : ℚ) / 2 ^ k| ≤ 1 := by
  have hcast : |(n : ℚ)| ≤ 2 ^ k := by exact_mod_cast hn
  rw [abs_div, abs_of_pos (a := (2 : ℚ) ^ k) (by positivity)]
  exact (div_le_one (by positivity)).mpr hcast

/-- Integer to Float32 is exact for a source of at most 24 bits: the value is then itself a significand (R200). -/
theorem i2f_exact {bits : ℕ} (hbits : bits ≤ 24) {n : ℤ} (hlo : -2 ^ (bits - 1) ≤ n) (hhi : n < 2 ^ (bits - 1)) :
    fval (i2f n bits) = .finite ((n : ℚ) / 2 ^ (bits - 1)) := by
  have habs : |n| ≤ 2 ^ (bits - 1) := abs_le.mpr ⟨hlo, hhi.le⟩
  have hlt : (2 : ℤ) ^ (bits - 1) < 2 ^ 24 := pow_lt_pow_right₀ (by norm_num) (by omega)
  rw [i2f_eq]
  exact rne32_exact (abs_div_two_pow_le_one habs) (hasSignificand_div_two_pow (habs.trans_lt hlt) (by omega))

/-- Settles O53: 24, 16 and 8 sample bits fit the significand of binary32. -/
theorem narrowIntegersConvertExactly : Obligations.NarrowIntegersConvertExactly := by
  intro bits hmem n hlo hhi
  have hbits : ∀ b ∈ [24, 16, 8], b ≤ 24 := by decide
  exact i2f_exact (hbits bits hmem) hlo hhi

/-! ## The offset of UInt8 -/

/-- A pattern with UInt8's offset put on or taken off: its top bit flipped (R13, R213). -/
def flipOffset (f : Format) (p : Word) : Word := p ^^^ (if f = .u8 then 0x80 else 0)

theorem leftBits_eq (src dst : Format) (p : Word) :
    leftBits src dst p = flipOffset dst (flipOffset src p <<< (sampleBits dst - sampleBits src)) := rfl

theorem flipOffset_of_ne {f : Format} (hf : f ≠ .u8) (p : Word) : flipOffset f p = p := by
  rw [flipOffset, if_neg hf]
  exact BitVec.xor_zero

/-- Flipping the top bit of a byte adds 128 modulo 256. -/
theorem flipOffset_toNat {f : Format} {p : Word} (hp : p.toNat < 2 ^ sampleBits f) :
    (flipOffset f p).toNat = (p.toNat + if f = .u8 then 128 else 0) % 2 ^ sampleBits f := by
  by_cases hf : f = .u8
  · subst hf
    have hbyte : ∀ n < 2 ^ 8, n ^^^ 128 = (n + 128) % 2 ^ 8 := by decide +kernel
    exact (BitVec.toNat_xor ..).trans (hbyte p.toNat hp)
  · rw [flipOffset_of_ne hf, if_neg hf, Nat.add_zero, Nat.mod_eq_of_lt hp]

theorem flipOffset_flipOffset (f : Format) (p : Word) : flipOffset f (flipOffset f p) = p := by
  rw [flipOffset, flipOffset, BitVec.xor_assoc, BitVec.xor_self, BitVec.xor_zero]

theorem toNat_lt_of_emod {bits : ℕ} {n : ℤ} {x : Word} (h : n % 2 ^ bits = x.toNat) : x.toNat < 2 ^ bits := by
  have hlt := Int.emod_lt_of_pos n (show (0 : ℤ) < 2 ^ bits by positivity)
  rw [h] at hlt
  exact_mod_cast hlt

/-- A pattern is the low bits of its value, with the offset put on (R155). -/
theorem patternOf_eq_flipOffset (f : Format) (r : ℤ) : patternOf f r = flipOffset f (bitsOfInt (sampleBits f) r) := by
  have hbits := bitsOfInt_toNat (sampleBits_le f) r
  apply BitVec.eq_of_toNat_eq
  zify
  rw [patternOf_toNat, flipOffset_toNat (toNat_lt_of_emod hbits.symm)]
  push_cast
  rw [hbits, Int.emod_add_emod]

/-- The logical value has the low bits of the pattern with the offset taken off (R58). -/
theorem logicalValue_emod {f : Format} (hf : f ≠ .f32) {p : Word} (hp : p.toNat < 2 ^ sampleBits f) :
    logicalValue f p % 2 ^ sampleBits f = (flipOffset f p).toNat := by
  rw [logicalValue_eq hf hp, flipOffset_toNat hp]
  split
  case isTrue h =>
    subst h
    simp only [sampleBits, elemSize]
    omega
  case isFalse h =>
    rw [Nat.add_zero]
    push_cast
    split
    · rfl
    · exact Int.sub_emod_right ..

/-- A pattern in an integer format is the pattern of its logical value (R58, R155). -/
theorem patternOf_logicalValue {f : Format} (hf : f ≠ .f32) {p : Word} (hp : p.toNat < 2 ^ sampleBits f) :
    patternOf f (logicalValue f p) = p := by
  have hbits : bitsOfInt (sampleBits f) (logicalValue f p) = flipOffset f p := by
    apply BitVec.eq_of_toNat_eq
    zify
    rw [bitsOfInt_toNat (sampleBits_le f), logicalValue_emod hf hp]
  rw [patternOf_eq_flipOffset, hbits, flipOffset_flipOffset]

/-! ## Widening -/

/-- The low bits of a value moved up by some places are its own low bits moved up (R206). -/
theorem bitsOfInt_widen {bits places : ℕ} (hbits : bits + places ≤ 32) {n : ℤ} {x : Word} (hn : n % 2 ^ bits = x.toNat) :
    bitsOfInt (bits + places) (widen n places) = x <<< places := by
  have hshift : x.toNat * 2 ^ places < 2 ^ 32 :=
    calc x.toNat * 2 ^ places < 2 ^ bits * 2 ^ places := (Nat.mul_lt_mul_right (by positivity)).mpr (toNat_lt_of_emod hn)
      _ = 2 ^ (bits + places) := (pow_add ..).symm
      _ ≤ 2 ^ 32 := Nat.pow_le_pow_right (by omega) hbits
  apply BitVec.eq_of_toNat_eq
  rw [BitVec.toNat_shiftLeft, Nat.shiftLeft_eq, Nat.mod_eq_of_lt hshift]
  zify
  rw [bitsOfInt_toNat hbits, widen, pow_add, mul_comm n, mul_comm (2 ^ bits), Int.mul_emod_mul_of_pos _ _ (by positivity), hn,
    mul_comm]

/-- The widening kernel moves the sample into the high-order bits, with UInt8's offset taken off before and put on after. -/
theorem widenKernel_eq_leftBits {src dst : Format} (hsrc : src ≠ .f32) (hle : sampleBits src ≤ sampleBits dst) {p : Word}
    (hp : p.toNat < 2 ^ sampleBits src) (d : ℤ) : widenKernel src dst p d = some (leftBits src dst p) := by
  obtain ⟨places, hplaces⟩ := Nat.exists_eq_add_of_le hle
  have hbits : sampleBits src + places ≤ 32 := hplaces ▸ sampleBits_le dst
  rw [widenKernel, leftBits_eq, patternOf_eq_flipOffset, hplaces, Nat.add_sub_cancel_left,
    bitsOfInt_widen hbits (logicalValue_emod hsrc hp)]

theorem widenings_formats : ∀ r ∈ widenings, r.src ≠ .f32 ∧ r.dst ≠ .f32 ∧ sampleBits r.src ≤ sampleBits r.dst := by decide

theorem offsets_formats : ∀ r ∈ offsets, r.src ≠ .f32 ∧ sampleBits r.src ≤ sampleBits r.dst := by decide

theorem leftBits_lt {src dst : Format} (hsrc : src ≠ .f32) (hle : sampleBits src ≤ sampleBits dst) {p : Word}
    (hp : p.toNat < 2 ^ sampleBits src) : (leftBits src dst p).toNat < 2 ^ sampleBits dst := by
  rw [← Option.some.inj (widenKernel_eq_leftBits hsrc hle hp 0)]
  exact patternOf_lt ..

/-- A RUN of a widening or offset converter leaves `leftBits` of every source element. -/
theorem widenRun_elements {r : Row} (hruns : RunsAs r (widenConverter r.src r.dst)) (hsrc : r.src ≠ .f32)
    (hle : sampleBits r.src ≤ sampleBits r.dst) {s : State} (k : Nat) (hinv : StateInv s) (hready : RunReady s r.src r.dst) :
    ∃ t, exec (r.command k) s = .next t ∧ RunFrame s t r.dst false k ∧
      ElementsAre s t r.src r.dst k fun p _ => leftBits r.src r.dst p :=
  plainRun_elements hruns rfl rfl (fun _ hp => widenKernel_eq_leftBits hsrc hle hp 0) (fun _ hp => leftBits_lt hsrc hle hp) k
    hinv hready

/-- Settles O42: every widening converter runs the kernel that left-justifies. -/
theorem wideningRuns : Obligations.WideningRuns := by
  intro r hr s k hinv hready
  obtain ⟨hsrc, -, hle⟩ := widenings_formats r hr
  exact widenRun_elements (widenings_runAs r hr) hsrc hle k hinv hready

/-- Between the two eight-bit formats nothing moves, and one of the two offsets is there (R213, R217). -/
theorem leftBits_offset : ∀ r ∈ offsets, ∀ p, leftBits r.src r.dst p = p ^^^ 0x80 := by
  intro r hr p
  fin_cases hr <;> simp [leftBits, sampleBits, elemSize]

/-- Settles O43: with equal widths `leftBits` is the flip of the top bit. -/
theorem offsetRuns : Obligations.OffsetRuns := by
  intro r hr s k hinv hready
  obtain ⟨hsrc, hle⟩ := offsets_formats r hr
  obtain ⟨t, hexec, hframe, helements⟩ := widenRun_elements (offsets_runAs r hr) hsrc hle k hinv hready
  exact ⟨t, hexec, hframe, fun i hi => (helements i hi).trans (leftBits_offset r hr _)⟩

/-! ## Narrowing back -/

/-- A value in the range of the narrow format, moved up, is in the range of the wide one (R206). -/
theorem widen_range {f g : Format} (hle : sampleBits f ≤ sampleBits g) {n : ℤ} (hlo : leastLogical f ≤ n)
    (hhi : n ≤ greatestLogical f) :
    leastLogical g ≤ widen n (sampleBits g - sampleBits f) ∧ widen n (sampleBits g - sampleBits f) ≤ greatestLogical g := by
  obtain ⟨places, hplaces⟩ := Nat.exists_eq_add_of_le hle
  have hf : 1 ≤ sampleBits f := by cases f <;> decide
  have hpow : (2 : ℤ) ^ (sampleBits g - 1) = 2 ^ (sampleBits f - 1) * 2 ^ places := by
    rw [← pow_add]
    congr 1
    omega
  have hone : (1 : ℤ) ≤ 2 ^ places := one_le_pow₀ (by norm_num)
  rw [leastLogical] at hlo
  rw [greatestLogical] at hhi
  rw [leastLogical, greatestLogical, hpow, hplaces, Nat.add_sub_cancel_left, widen]
  constructor <;> nlinarith

/-- A widened pattern has the widened logical value. -/
theorem logicalValue_widened {src dst : Format} (hsrc : src ≠ .f32) (hdst : dst ≠ .f32)
    (hle : sampleBits src ≤ sampleBits dst) {p : Word} (hp : p.toNat < 2 ^ sampleBits src) :
    logicalValue dst (patternOf dst (widen (logicalValue src p) (sampleBits dst - sampleBits src))) =
      widen (logicalValue src p) (sampleBits dst - sampleBits src) := by
  obtain ⟨hlo, hhi⟩ := logicalValue_range hsrc hp
  obtain ⟨hlo', hhi'⟩ := widen_range hle hlo hhi
  exact logicalValue_patternOf hdst hlo' hhi'

theorem narrow_widen (n : ℤ) (places : ℕ) : narrow (widen n places) places = n := by
  rw [narrow, widen, Int.shiftRight_eq_div_pow]
  push_cast
  exact Int.mul_ediv_cancel n (by positivity)

/-- Narrowing a widened pattern gives it back (R218). -/
theorem narrowKernel_widenKernel {src dst : Format} (hsrc : src ≠ .f32) (hdst : dst ≠ .f32)
    (hle : sampleBits src ≤ sampleBits dst) {p : Word} (hp : p.toNat < 2 ^ sampleBits src) (d : ℤ) :
    ∃ q, widenKernel src dst p d = some q ∧ narrowKernel dst src q d = some p := by
  refine ⟨_, rfl, ?_⟩
  rw [narrowKernel, logicalValue_widened hsrc hdst hle hp, narrow_widen, patternOf_logicalValue hsrc hp]

/-- Between formats of equal width widening is narrowing: no bit moves. -/
theorem widenKernel_eq_narrowKernel {src dst : Format} (hwidth : sampleBits src = sampleBits dst) (p : Word) (d : ℤ) :
    widenKernel src dst p d = narrowKernel src dst p d := by
  simp [widenKernel, narrowKernel, widen, narrow, hwidth]

/-- Settles O56: `narrowKernel_widenKernel` for the widenings; the way back between equal widths is a narrowing by no bits. -/
theorem narrowingUndoesWidening : Obligations.NarrowingUndoesWidening := by
  refine ⟨fun r hr p hp d => ?_, fun p hp d => ?_, fun p hp d => ?_⟩
  · obtain ⟨hsrc, hdst, hle⟩ := widenings_formats r hr
    exact narrowKernel_widenKernel hsrc hdst hle hp d
  · obtain ⟨q, hwiden, hnarrow⟩ := narrowKernel_widenKernel (src := .i8) (dst := .u8) (by decide) (by decide) le_rfl hp d
    exact ⟨q, hwiden, (widenKernel_eq_narrowKernel (by decide) q d).trans hnarrow⟩
  · obtain ⟨q, hwiden, hnarrow⟩ := narrowKernel_widenKernel (src := .u8) (dst := .i8) (by decide) (by decide) le_rfl hp d
    exact ⟨q, hwiden, (widenKernel_eq_narrowKernel (by decide) q d).trans hnarrow⟩

end Sys2Proof.Proofs.FixedToFloat

/-! The narrowing converters: the plain kernel as an operation on bits (R230 to R239), the dithered kernel in plain arithmetic
and where it wraps (R240, R251), a RUN of each, and the six converters that are not implemented (R244). -/

namespace Sys2Proof.Proofs.Narrowing

open Sys2Proof.Machine Sys2Proof.Laws Sys2Proof.Claims Scope Memory FloatToFixed FixedToFloat

/-! ## Not implemented -/

/-- The first check of RUN looks at the converter alone (R150, R244). -/
theorem runConverter_unimplemented {c : Converter} (hdither : c.dither = true) (hun : (c.src, c.dst) ∈ Config.unimpl) (k : Nat)
    (s : State) : runConverter c k s = .next (s.setStatus 2) := if_pos ⟨hdither, hun⟩

theorem unimplemented_runs :
    ∀ i ∈ unimplemented, ∃ pair ∈ Config.unimpl, ∀ k s, exec (i k) s = runConverter (narrowDConverter pair.1 pair.2) k s := by
  intro i hi
  simp only [unimplemented, List.mem_cons, List.not_mem_nil, or_false] at hi
  rcases hi with rfl | rfl | rfl | rfl | rfl | rfl
  · exact ⟨(.i32, .i24), by decide, exec_cvtI32I24D⟩
  · exact ⟨(.i32, .u8), by decide, exec_cvtI32U8D⟩
  · exact ⟨(.i24, .i8), by decide, exec_cvtI24I8D⟩
  · exact ⟨(.i24, .u8), by decide, exec_cvtI24U8D⟩
  · exact ⟨(.i16, .i8), by decide, exec_cvtI16I8D⟩
  · exact ⟨(.i16, .u8), by decide, exec_cvtI16U8D⟩

/-- Settles O36: each of the six runs a dithered narrowing between a pair of UNIMPL. -/
theorem unimplementedConversionsFailLoudly : Obligations.UnimplementedConversionsFailLoudly := by
  intro i hi s k
  obtain ⟨pair, hun, hexec⟩ := unimplemented_runs i hi
  rw [hexec]
  exact runConverter_unimplemented rfl hun k s

/-! ## Plain narrowing -/

/-- Moving a value down and keeping its low bits is taking the high-order bits of its pattern (R230). -/
theorem bitsOfInt_narrow {bits places : ℕ} (hbits : bits ≤ 32) {n : ℤ} {x : Word} (hn : n % 2 ^ (bits + places) = x.toNat) :
    bitsOfInt bits (narrow n places) = x >>> places := by
  have hplaces : (0 : ℤ) < 2 ^ places := by positivity
  have hsplit : n = x.toNat + 2 ^ bits * (n / 2 ^ (bits + places)) * 2 ^ places := by
    have hdiv := Int.emod_add_mul_ediv n (2 ^ (bits + places))
    rw [hn, pow_add] at hdiv
    rw [pow_add]
    linarith
  have hfits : (x.toNat / 2 ^ places : ℤ) < 2 ^ bits := by
    refine Int.ediv_lt_of_lt_mul hplaces ?_
    rw [← pow_add]
    exact_mod_cast toNat_lt_of_emod hn
  apply BitVec.eq_of_toNat_eq
  rw [BitVec.toNat_ushiftRight, Nat.shiftRight_eq_div_pow]
  zify
  rw [bitsOfInt_toNat hbits, narrow, Int.shiftRight_eq_div_pow, hsplit]
  push_cast
  rw [Int.add_mul_ediv_right _ _ hplaces.ne', Int.add_mul_emod_self_left, Int.emod_eq_of_lt (by positivity) hfits]

/-- The plain kernel takes the high-order bits of the sample and puts UInt8's offset on (R230). -/
theorem narrowKernel_eq_highBits {src dst : Format} (hsrc : src ≠ .f32) (hsigned : src ≠ .u8)
    (hle : sampleBits dst ≤ sampleBits src) {p : Word} (hp : p.toNat < 2 ^ sampleBits src) (d : ℤ) :
    narrowKernel src dst p d = some (highBits src dst p) := by
  obtain ⟨places, hplaces⟩ := Nat.exists_eq_add_of_le hle
  have hvalue := logicalValue_emod hsrc hp
  rw [flipOffset_of_ne hsigned, hplaces] at hvalue
  rw [narrowKernel, highBits, patternOf_eq_flipOffset, hplaces, Nat.add_sub_cancel_left,
    bitsOfInt_narrow (sampleBits_le dst) hvalue, flipOffset]

theorem highBits_lt {src dst : Format} (hsrc : src ≠ .f32) (hsigned : src ≠ .u8) (hle : sampleBits dst ≤ sampleBits src)
    {p : Word} (hp : p.toNat < 2 ^ sampleBits src) : (highBits src dst p).toNat < 2 ^ sampleBits dst := by
  rw [← Option.some.inj (narrowKernel_eq_highBits hsrc hsigned hle hp 0)]
  exact patternOf_lt ..

theorem narrowings_formats :
    ∀ r ∈ narrowings, r.src ≠ .f32 ∧ r.src ≠ .u8 ∧ sampleBits r.dst ≤ sampleBits r.src := by decide

/-- Settles O41: every plain narrowing converter runs the kernel that takes the high-order bits. -/
theorem plainNarrowingRuns : Obligations.PlainNarrowingRuns := by
  intro r hr s k hinv hready
  obtain ⟨hsrc, hsigned, hle⟩ := narrowings_formats r hr
  exact plainRun_elements (narrowings_runAs r hr) rfl rfl (fun _ hp => narrowKernel_eq_highBits hsrc hsigned hle hp 0)
    (fun _ hp => highBits_lt hsrc hsigned hle hp) k hinv hready

/-! ## Dithered narrowing -/

theorem ditheredNarrowings_formats :
    ∀ r ∈ ditheredNarrowings, r.src ≠ .f32 ∧ r.dst ≠ .f32 ∧ r.dst ≠ .u8 ∧ (r.src, r.dst) ∉ Config.unimpl ∧
      1 ≤ sampleBits r.dst ∧ sampleBits r.dst ≤ 31 := by decide

/-- The two arithmetic shifts of `NarrowD` as floors of quotients (R8, R240). -/
theorem narrowD_eq (srcBits dstBits : ℕ) (n d : ℤ) :
    narrowD srcBits dstBits n d = (n * 2 ^ (32 - srcBits) / 2 + d) / 2 ^ (31 - dstBits) := by
  simp only [narrowD, narrowSum, leftJustified, Int.shiftRight_eq_div_pow]
  push_cast
  rfl

/-- The dithered kernel in the spec's words (R240). -/
theorem narrowDKernel_eq_ditheredNarrow {src dst : Format} (hsrc : src ≠ .f32) (hdst : dst ≠ .f32) (p : Word) (d : ℤ) :
    narrowDKernel src dst p d = some (ditheredNarrow src dst p d) := by
  rw [narrowDKernel, ditheredNarrow, stored_eq_patternOf hdst, narrowD_eq, logicalValue_eq_logical hsrc]

theorem ditheredNarrow_lt {src dst : Format} (hdst : dst ≠ .f32) (p : Word) (d : ℤ) :
    (ditheredNarrow src dst p d).toNat < 2 ^ sampleBits dst := by
  rw [ditheredNarrow, stored_eq_patternOf hdst]
  exact patternOf_lt ..

/-- An implemented dithering converter with tolerance 0 whose kernel never draws leaves in every destination element the
kernel's value for the source element and its own dither value, on either path (R150 to R156, R282). -/
theorem ditheringRun_elements {r : Row} {c : Converter} (hruns : RunsAs r c) (hdither : c.dither = true) (htol : c.tol = 0)
    (himpl : (r.src, r.dst) ∉ Config.unimpl) {g : Word → ℤ → Word} (hkernel : ∀ p d, c.kernel p d = some (g p d))
    (hfits : ∀ p d, (g p d).toNat < 2 ^ sampleBits r.dst) {s : State} {k : Nat} (hinv : StateInv s) (hk : k < contexts s)
    (hready : RunReady s r.src r.dst) :
    ∃ t, exec (r.command k) s = .next t ∧ RunFrame s t r.dst true k ∧ ElementsAre s t r.src r.dst k g := by
  obtain ⟨hsrc, hdst, hexec⟩ := hruns
  rw [← hsrc, ← hdst] at himpl hready
  rw [← hdst] at hfits
  rw [← hsrc, ← hdst]
  obtain ⟨t, hrun, heq⟩ := runConverter_ready (c := c) (k := k) (fun ⟨_, hun⟩ => himpl hun) (fun _ => hk) hready hinv.memory
    hinv.a0 hinv.a2 hinv.a4
  have hframe := runFrame_of_runAt hrun
  rw [hdither] at hframe
  refine ⟨finish t, by rw [hexec, heq], hframe, fun i hi => ?_⟩
  have hsample := hrun.elements i hi
  simp only [hdither, if_true] at hsample
  exact sampleOk_eq_of_exact hsample (.inr htol) (hkernel _ _) (hfits _ _)

/-- Settles O45: the three converters are implemented and run the kernel of `narrowDKernel_eq_ditheredNarrow`. -/
theorem ditheredNarrowingRuns : Obligations.DitheredNarrowingRuns := by
  intro r hr s k hinv hk hready
  obtain ⟨hsrc, hdst, -, himpl, -⟩ := ditheredNarrowings_formats r hr
  exact ditheringRun_elements (ditheredNarrowings_runAs r hr) rfl rfl himpl (narrowDKernel_eq_ditheredNarrow hsrc hdst)
    (ditheredNarrow_lt hdst) hinv hk hready

/-! ## Where the dithered narrowing wraps -/

/-- A 31-bit range shifted down to a narrower width is that width's range, and nothing else is shifted into it (R251). -/
theorem shiftRight_mem_range_iff {bits : ℕ} (hpos : 1 ≤ bits) (hle : bits ≤ 31) (t : ℤ) :
    (-2 ^ 30 ≤ t ∧ t ≤ 2 ^ 30 - 1) ↔
      (-2 ^ (bits - 1) ≤ t >>> (31 - bits) ∧ t >>> (31 - bits) ≤ 2 ^ (bits - 1) - 1) := by
  have hplaces : (0 : ℤ) < 2 ^ (31 - bits) := by positivity
  have hpow : (2 : ℤ) ^ (bits - 1) * 2 ^ (31 - bits) = 2 ^ 30 := by
    rw [← pow_add]
    congr 1
    omega
  have hquotient : t >>> (31 - bits) = t / 2 ^ (31 - bits) := by
    rw [Int.shiftRight_eq_div_pow]
    push_cast
    rfl
  rw [hquotient, Int.le_sub_one_iff, Int.le_sub_one_iff, Int.le_ediv_iff_mul_le hplaces, Int.ediv_lt_iff_lt_mul hplaces,
    neg_mul, hpow]

/-- The dithered kernel stores the low bits of its shifted sum, in its range or not (R240, R251). -/
theorem narrowDKernel_toNat {src dst : Format} (hsrc : src ≠ .f32) (hdst : dst ≠ .u8) (p : Word) (d : ℤ) :
    ∃ q, narrowDKernel src dst p d = some q ∧
      (q.toNat : ℤ) = narrowD (sampleBits src) (sampleBits dst) (logical src p) d % 2 ^ sampleBits dst := by
  refine ⟨_, rfl, ?_⟩
  rw [patternOf_toNat, if_neg hdst, add_zero, logicalValue_eq_logical hsrc]

/-- Settles O55: r is the sum t shifted into the destination's width. -/
theorem ditheredNarrowingWraps : Obligations.DitheredNarrowingWraps := by
  intro r hr p d
  obtain ⟨hsrc, -, hdst, -, hpos, hle⟩ := ditheredNarrowings_formats r hr
  exact ⟨shiftRight_mem_range_iff hpos hle _, narrowDKernel_toNat hsrc hdst p d⟩

end Sys2Proof.Proofs.Narrowing

/-! The copies and the zero fills: a run of each (R260, R267), and the silence that every plain converter keeps (R274). -/

namespace Sys2Proof.Proofs.CopyZero

open Sys2Proof.Machine Sys2Proof.Laws Sys2Proof.Claims Memory FloatToFixed FixedToFloat

/-! ## Copies -/

/-- Settles O40: a copy is a plain converter whose kernel is the identity, between two elements of one width. -/
theorem copyRuns : Obligations.CopyRuns := by
  intro r hr s k hinv hready
  have hruns := copies_runAs r hr
  have hformat : r.dst = r.src := hruns.src
  exact plainRun_elements hruns rfl rfl (fun _ _ => rfl) (fun _ hp => hformat ▸ hp) k hinv hready

/-! ## Zero fills -/

/-- A finished zero fill leaves exactly what R267 says a ZERO leaves. -/
theorem zeroFrame_of_zeroAt {f : Format} {p : Word} {s t : State} (h : ZeroAt f p s t s.a2.toNat) :
    ZeroFrame s (finish t) f where
  status := rfl
  registers := MachineState.sameRegisters_setStatus h.registers _
  results := ⟨h.results.result0, h.results.result1, h.results.result2, h.results.result3⟩
  contexts := h.contexts
  memory := h.memory

/-- The silence code of a format fits its element. -/
theorem zeroFills_fit : ∀ z ∈ zeroFills, z.2.2.toNat < 2 ^ sampleBits z.2.1 := by decide

/-- Settles O49: `runZero_ready` says what the fill leaves, and the silence code loses no bit when it is stored. -/
theorem zeroFillRuns : Obligations.ZeroFillRuns := by
  intro z hz s hinv hready
  obtain ⟨t, hrun, heq⟩ := runZero_ready (p := z.2.2) hready hinv.memory hinv.a0 hinv.a2
  refine ⟨finish t, (zeroFills_run z hz s).trans heq, zeroFrame_of_zeroAt hrun, fun i hi => ?_⟩
  exact (hrun.elements i hi).trans (keepBits_of_lt (zeroFills_fit z hz))

/-! ## Silence -/

theorem logicalValue_silence (f : Format) : logicalValue f (silence f) = 0 := by cases f <;> rfl

theorem patternOf_zero (f : Format) : patternOf f 0 = silence f := by cases f <;> rfl

theorem storedFixed_zero {f : Format} (hf : f ≠ .f32) : storedFixed f 0 = silence f := by
  rw [← fixedPattern_eq_storedFixed hf]
  cases f <;> rfl

theorem widenKernel_silence (src dst : Format) (d : ℤ) : widenKernel src dst (silence src) d = some (silence dst) := by
  rw [widenKernel, logicalValue_silence, widen, zero_mul, patternOf_zero]

theorem narrowKernel_silence (src dst : Format) (d : ℤ) : narrowKernel src dst (silence src) d = some (silence dst) := by
  rw [narrowKernel, logicalValue_silence, narrow, Int.zero_shiftRight, patternOf_zero]

theorem fixedToFloat_silence (f : Format) (d : ℤ) : fixedToFloat f (silence f) d = some (silence .f32) := by
  rw [fixedToFloat, logicalValue_silence, i2f_eq, Int.cast_zero, zero_div, rne32, if_pos rfl]
  rfl

theorem fval_silence : fval (silence .f32) = .finite 0 := by decide +kernel

/-- Without dither 0 is scaled to 0, which lies inside every clip (R170). -/
theorem scaled_zero (f : Format) (clip : Bool) (d : ℤ) : scaled f false clip 0 d = 0 := by
  have hM : (0 : ℚ) ≤ magnitude f := by cases f <;> norm_num [magnitude]
  have hlow : lowest f ≤ 0 := by
    rw [lowest]
    linarith
  simp [scaled, hM, hlow]

theorem floatToFixed_silence {f : Format} (hf : f ≠ .f32) (clip : Bool) (d : ℤ) :
    floatToFixed f false clip (silence .f32) d = some (silence f) := by
  have hresult : towardZero (scaled f false clip 0 d) = 0 := by
    rw [scaled_zero, towardZero_of_nonneg le_rfl, Int.floor_zero]
  have hlo : lowBound f ≤ 0 := by cases f <;> decide
  have hhi : 0 ≤ highBound f := by cases f <;> decide
  rw [floatToFixed_of_f2i hf (f2i_inRange hf fval_silence (by rwa [hresult]) (by rwa [hresult])), hresult,
    storedFixed_zero hf]

/-- Settles O57: silence has logical value 0 in every format, and every kernel takes 0 to 0. -/
theorem silenceStaysSilence : Obligations.SilenceStaysSilence := by
  refine ⟨fun _ _ => rfl, fun r hr _ d => ?_, fun r _ d => ?_, fun r _ d => ?_, fun r _ d => ?_⟩
  · exact floatToFixed_silence (fromFloats_dst r hr) r.clip d
  · exact fixedToFloat_silence r.src d
  · exact widenKernel_silence r.src r.dst d
  · exact narrowKernel_silence r.src r.dst d

end Sys2Proof.Proofs.CopyZero

/-! The vector path: the tolerance band of the accelerated path (R282), the runs that take it (R281 to R284), and the command
that switches it (R280). -/

namespace Sys2Proof.Proofs.VectorPath

open Sys2Proof.Machine Sys2Proof.Laws Sys2Proof.Claims Memory FloatToFixed FixedToFloat

/-! ## The band -/

theorem bandValue_mem {lo hi : ℤ} (h : lo ≤ hi) (w : Word) : lo ≤ bandValue lo hi w ∧ bandValue lo hi w ≤ hi := by
  have hpos : 0 < hi - lo + 1 := by omega
  have h1 := Int.emod_nonneg (w.toNat : ℤ) hpos.ne'
  have h2 := Int.emod_lt_of_pos (w.toNat : ℤ) hpos
  rw [bandValue]
  omega

/-- The word that holds the distance of a value from the lower end selects it. -/
theorem bandValue_distance {lo hi o : ℤ} (hlo : lo ≤ o) (hhi : o ≤ hi) (hwidth : hi - lo < 2 ^ 32) :
    bandValue lo hi (BitVec.ofNat 32 (o - lo).toNat) = o := by
  have hword : ((BitVec.ofNat 32 (o - lo).toNat).toNat : ℤ) = o - lo := by
    rw [BitVec.toNat_ofNat, Nat.mod_eq_of_lt (by omega), Int.toNat_of_nonneg (by omega)]
  rw [bandValue, hword, Int.emod_eq_of_lt (by omega) (by omega)]
  omega

/-- Settles O48: `bandValue_distance` for the values of the band, `bandValue_mem` for the others. -/
theorem bandAdmitsEveryValue : Obligations.BandAdmitsEveryValue := by
  intro lo hi o hle hwidth
  constructor
  · rintro ⟨hlo, hhi⟩
    exact ⟨_, bandValue_distance hlo hhi hwidth⟩
  · rintro ⟨w, rfl⟩
    exact bandValue_mem hle w

/-- A value of the band around a reference in the format's range is in that range and within the tolerance (R282). -/
theorem bandValue_near {f : Format} {tol : ℕ} {r : ℤ} (hlo : leastLogical f ≤ r) (hhi : r ≤ greatestLogical f) (w : Word) :
    leastLogical f ≤ bandValue (bandLow f tol r) (bandHigh f tol r) w ∧
      bandValue (bandLow f tol r) (bandHigh f tol r) w ≤ greatestLogical f ∧
      |bandValue (bandLow f tol r) (bandHigh f tol r) w - r| ≤ tol := by
  have hband : bandLow f tol r ≤ bandHigh f tol r := by
    rw [bandLow, bandHigh]
    omega
  obtain ⟨h1, h2⟩ := bandValue_mem hband w
  rw [bandLow, bandHigh] at *
  refine ⟨by omega, by omega, abs_le.mpr ⟨by omega, by omega⟩⟩

/-! ## A run on the accelerated path -/

/-- On either path a sample that does not draw leaves an element within the tolerance of its reference value (R282). -/
theorem sampleOk_near {c : Converter} {accelerated : Bool} {ref : Option Word} {o q : Word} (hdst : c.dst ≠ .f32)
    (h : SampleOk c accelerated ref o) (href : ref = some q) (hq : q.toNat < 2 ^ sampleBits c.dst) :
    |logical c.dst o - logical c.dst q| ≤ c.tol := by
  subst href
  by_cases hpath : (accelerated && c.tol != 0) = true
  · simp only [SampleOk, hpath, if_true] at h
    obtain ⟨w, rfl⟩ := h
    obtain ⟨hlo, hhi⟩ := logicalValue_range hdst hq
    obtain ⟨hlo', hhi', hnear⟩ := bandValue_near (tol := c.tol) hlo hhi w
    rw [keepBits_of_lt (patternOf_lt ..), ← logicalValue_eq_logical hdst, ← logicalValue_eq_logical hdst,
      logicalValue_patternOf hdst hlo' hhi']
    exact hnear
  · have hexact : accelerated = false ∨ c.tol = 0 := by
      simpa [Bool.and_eq_true, or_iff_not_imp_left] using hpath
    rw [sampleOk_eq_of_exact h hexact rfl hq, sub_self, abs_zero]
    exact Int.natCast_nonneg _

theorem inVectorPrefix_eq_false {count i : ℕ} (h : 4 * (count / 4) ≤ i) : inVectorPrefix count i = false :=
  decide_eq_false (Nat.not_lt.mpr h)

/-- Settles O47: the run is that of the reference path (`runConverter_ready`); `sampleOk_near` holds of every sample, and after
the last whole group of four no sample is accelerated. -/
theorem acceleratedRunsStayInTheBand : Obligations.AcceleratedRunsStayInTheBand := by
  intro r hr s k hinv hk hready haccel
  obtain ⟨hsrc, -, hexec⟩ := fromFloats_runAs r hr
  change Format.f32 = r.src at hsrc
  rw [← hsrc] at hready ⊢
  obtain ⟨t, hrun, heq⟩ := runConverter_ready (c := floatConverter r.dst r.dither r.clip r.tol)
    (fun ⟨_, hun⟩ => f32_implemented _ hun) hk hready hinv.memory hinv.a0 hinv.a2 hinv.a4
  refine ⟨finish t, by rw [hexec, heq], runFrame_of_runAt hrun, fun i hi ref href => ?_⟩
  have hkernel := (floatToFixed_sampleDither ..).trans href
  have hsample := hrun.elements i hi
  refine ⟨fun _ => ?_, fun hafter => ?_⟩
  · exact sampleOk_near (fromFloats_dst r hr) hsample hkernel (floatToFixed_lt href)
  · have hreference : (accelOn s && inVectorPrefix s.a4.toNat i) = false := by
      rw [inVectorPrefix_eq_false hafter, Bool.and_false]
    exact sampleOk_eq_of_exact hsample (.inl hreference) hkernel (floatToFixed_lt href)

/-! ## SETCTRL -/

/-- SETCTRL replaces bit 0 of CTRL and keeps the others (R23, R280). -/
theorem withAccel_getLsbD (ctrl : Word) (accel : Bool) (i : ℕ) :
    (withAccel ctrl accel).getLsbD i = if i = 0 then accel else ctrl.getLsbD i := by
  have hmask : (0xFFFFFFFE : Word) = ~~~1#32 := by decide
  have hlow : (if accel then 1 else 0 : Word).getLsbD i = (decide (i = 0) && accel) := by
    cases accel <;> simp
  rw [withAccel, BitVec.getLsbD_or, BitVec.getLsbD_and, hmask, hlow, BitVec.getLsbD_not, BitVec.getLsbD_one]
  by_cases hi : i = 0
  · simp [hi]
  · by_cases h32 : i < 32
    · simp [hi, h32]
    · simp [hi, h32, BitVec.getLsbD_of_ge _ _ (Nat.not_lt.mp h32)]

theorem withAccel_of_reserved {ctrl : Word} (h : ctrl &&& 0xFFFFFFFE = 0) (accel : Bool) :
    withAccel ctrl accel = if accel then 1 else 0 := by
  rw [withAccel, h]
  exact BitVec.zero_or

/-- Settles O50: the next state is written out, and `withAccel_getLsbD` says what is in CTRL bit by bit. -/
theorem setctrlResult : Obligations.SetctrlResult := by
  intro s accel
  refine ⟨_, exec_setctrl accel s, ?_, fun i hi => ?_, rfl, fun hinv => ?_⟩
  · exact withAccel_getLsbD s.ctrl accel 0
  · exact (withAccel_getLsbD s.ctrl accel i).trans (if_neg hi.ne')
  · exact withAccel_of_reserved hinv.ctrl accel

end Sys2Proof.Proofs.VectorPath

/-! Outcome codes: what a command that raises leaves (R302), the operands that are BAD_OPERAND (R306), and that no command
faults (R301). -/

namespace Sys2Proof.Proofs.Exceptions

open Sys2Proof.Machine Sys2Proof.Laws Sys2Proof.Claims Memory

/-! ## Commands that raise -/

/-- Every code but OK has one of the numbers 1 to 4 (R300). -/
theorem codeWord_mem_of_ne_zero {code : Code} (h : codeWord code ≠ 0) : codeWord code ∈ [1#32, 2#32, 3#32, 4#32] := by
  cases code
  case ok => exact absurd rfl h
  all_goals decide

theorem runConverter_failing {c : Converter} {k : Nat} {s t : State} (h : runConverter c k s = .next t)
    (hfail : t.status ≠ 0) : ∃ code, t = raise code s := by
  rcases runConverter_next h with (rfl | rfl) | ⟨u, -, rfl⟩
  · exact ⟨_, rfl⟩
  · exact ⟨_, rfl⟩
  · exact absurd rfl hfail

theorem runZero_failing {f : Format} {p : Word} {s t : State} (h : runZero f p s = .next t) (hfail : t.status ≠ 0) :
    ∃ code, t = raise code s := by
  rcases runZero_next h with rfl | ⟨u, -, rfl⟩
  · exact ⟨_, rfl⟩
  · exact absurd rfl hfail

theorem onContext_failing {k : Nat} {s t : State} {effect : State → State} (h : onContext k s effect = .next t)
    (hfail : t.status ≠ 0) : ∃ code, t = raise code s := by
  rcases onContext_cases k s effect with ⟨-, e⟩ | ⟨-, e⟩ <;> obtain rfl := Host.Outcome.next.inj (e.symm.trans h)
  · exact ⟨_, rfl⟩
  · exact absurd rfl hfail

theorem exec_resolve_failing {c d : Bool} {s t : State} (h : exec (.resolve c d) s = .next t) (hfail : t.status ≠ 0) :
    ∃ code, t = raise code (s.setResult0 resolveSentinel) := by
  rw [exec_resolve] at h
  rcases execResolve_cases c d s with ⟨id, e⟩ | e | e <;> obtain rfl := Host.Outcome.next.inj (e.symm.trans h)
  · exact absurd rfl hfail
  · exact ⟨_, rfl⟩
  · exact ⟨_, rfl⟩

theorem exec_selfmt_failing {s t : State} (h : exec .selfmt s = .next t) (hfail : t.status ≠ 0) :
    ∃ code, t = raise code (s.setResult0 0) := by
  rw [exec_selfmt] at h
  rcases execSelfmt_cases s with ⟨k, e⟩ | e <;> obtain rfl := Host.Outcome.next.inj (e.symm.trans h)
  · exact absurd rfl hfail
  · exact ⟨_, rfl⟩

/-- A command without a sentinel, when it fails, has raised its code on the state it started in; SETCTRL cannot fail (R302). -/
theorem exec_failing {i : Instr} {s t : State} (hselfmt : i ≠ .selfmt) (hresolve : ∀ c d, i ≠ .resolve c d)
    (h : exec i s = .next t) (hfail : t.status ≠ 0) : ∃ code, t = raise code s := by
  rcases exec_shape i with ⟨-, k, c, -, hrun⟩ | ⟨-, -, f, hzero⟩ | ⟨-, k, effect, -, hdither, -⟩ | ⟨c, d, rfl⟩ | rfl | ⟨a, rfl⟩
  · exact runConverter_failing ((hrun s).symm.trans h) hfail
  · exact runZero_failing ((hzero s).symm.trans h) hfail
  · exact onContext_failing ((hdither s).symm.trans h) hfail
  · exact absurd rfl (hresolve c d)
  · exact absurd rfl hselfmt
  · obtain rfl := Host.Outcome.next.inj ((exec_setctrl a s).symm.trans h)
    exact absurd rfl hfail

/-- Settles O16: RESOLVE, SELFMT and the other commands each raise on the state they started in, the first two with their
sentinel in RESULT0. -/
theorem failingCommandsChangeOnlyStatus : Obligations.FailingCommandsChangeOnlyStatus := by
  refine ⟨fun i s t h hfail => ?_, fun s why hwhy => Encoding.runWord_of_illegal hwhy⟩
  by_cases hresolve : ∃ c d, i = .resolve c d
  · obtain ⟨c, d, rfl⟩ := hresolve
    obtain ⟨code, rfl⟩ := exec_resolve_failing h hfail
    exact ⟨rfl, fun hother => absurd rfl (hother.2 c d), fun _ _ _ => rfl, nofun, codeWord_mem_of_ne_zero hfail⟩
  by_cases hselfmt : i = .selfmt
  · subst hselfmt
    obtain ⟨code, rfl⟩ := exec_selfmt_failing h hfail
    exact ⟨rfl, fun hother => absurd rfl hother.1, nofun, fun _ => rfl, codeWord_mem_of_ne_zero hfail⟩
  · obtain ⟨code, rfl⟩ := exec_failing hselfmt (fun c d hi => hresolve ⟨c, d, hi⟩) h hfail
    exact ⟨rfl, fun _ => rfl, fun c d hi => absurd ⟨c, d, hi⟩ hresolve, fun hi => absurd hi hselfmt,
      codeWord_mem_of_ne_zero hfail⟩

/-! ## Bad operands -/

/-- The context is the first operand that an implemented dithering RUN checks (R150, R306). -/
theorem runConverter_missingContext {c : Converter} {k : Nat} {s : State} (hdither : c.dither = true)
    (himpl : (c.src, c.dst) ∉ Config.unimpl) (hk : contexts s ≤ k) : runConverter c k s = .next (s.setStatus 4) := by
  rw [runConverter, if_neg (fun h => himpl h.2), if_pos ⟨hdither, hk⟩]
  rfl

/-- An implemented RUN that has a stride of 0 ends with BAD_OPERAND: either its context is missing, or the strides are the
next check (R150, R306). -/
theorem runConverter_zeroStride {c : Converter} {s : State} (himpl : c.dither = true → (c.src, c.dst) ∉ Config.unimpl) (k : Nat)
    (hstride : s.a1 = 0 ∨ s.a3 = 0) : runConverter c k s = .next (s.setStatus 4) := by
  by_cases hcontext : c.dither = true ∧ contexts s ≤ k
  · exact runConverter_missingContext hcontext.1 (himpl hcontext.1) hcontext.2
  · rw [runConverter, if_neg (fun h => himpl h.1 h.2), if_neg hcontext, if_pos hstride]
    rfl

theorem runZero_zeroStride {f : Format} {p : Word} {s : State} (hstride : s.a1 = 0) :
    runZero f p s = .next (s.setStatus 4) := if_pos hstride

theorem ditherCommand_missingContext {i : Instr} {k : Nat} {s : State} (hi : i ∈ MachineState.ditherCommands k)
    (hk : contexts s ≤ k) : exec i s = .next (s.setStatus 4) := by
  simp only [MachineState.ditherCommands, List.mem_cons, List.not_mem_nil, or_false] at hi
  rcases hi with rfl | rfl | rfl | rfl | rfl
  · exact (exec_dinit k s).trans (Dither.onContext_of_le hk _)
  · exact (exec_dither16 k s).trans (Dither.onContext_of_le hk _)
  · exact (exec_ditherf k s).trans (Dither.onContext_of_le hk _)
  · exact (exec_vdither16 k s).trans (Dither.onContext_of_le hk _)
  · exact (exec_vditherf k s).trans (Dither.onContext_of_le hk _)

/-- A dithering row runs an implemented converter whose D bit is 1. -/
theorem ditheringRows_runAs_implemented {r : Row} (hr : r ∈ ditheringRows) :
    ∃ c, (∀ k s, exec (r.command k) s = runConverter c k s) ∧ c.dither = true ∧ (c.src, c.dst) ∉ Config.unimpl := by
  obtain ⟨c, ⟨hsrc, hdst, hexec⟩, hdither⟩ := ditheringRows_runAs hr
  have himpl := ditheringRows_implemented r hr
  rw [← hsrc, ← hdst] at himpl
  exact ⟨c, hexec, hdither, himpl⟩

/-- Settles O30: `ditherCommand_missingContext` and `runConverter_missingContext`. -/
theorem missingContextIsBadOperand : Obligations.MissingContextIsBadOperand := by
  refine fun s k hk => ⟨fun i hi => ditherCommand_missingContext hi hk, fun r hr => ?_⟩
  obtain ⟨c, hexec, hdither, himpl⟩ := ditheringRows_runAs_implemented hr
  exact (hexec k s).trans (runConverter_missingContext hdither himpl hk)

/-- Settles O35: `runConverter_zeroStride` for the rows of both kinds, `runZero_zeroStride` for the zero fills. -/
theorem zeroStrideIsBadOperand : Obligations.ZeroStrideIsBadOperand := by
  refine ⟨fun r hr s k hstride => ?_, fun r hr s k hstride => ?_, fun z hz s hstride => ?_⟩
  · obtain ⟨c, ⟨-, -, hexec⟩, hplain⟩ := plainRows_runAs hr
    exact (hexec k s).trans (runConverter_zeroStride (by simp [hplain]) k hstride)
  · obtain ⟨c, hexec, -, himpl⟩ := ditheringRows_runAs_implemented hr
    exact (hexec k s).trans (runConverter_zeroStride (fun _ => himpl) k hstride)
  · exact (zeroFills_run z hz s).trans (runZero_zeroStride hstride)

/-! ## No trap -/

/-- Settles O14: a step takes the host's next action, and there is none. -/
theorem idleBlockKeepsItsState : Obligations.IdleBlockKeepsItsState := fun _ h => MachineState.step_idle h

theorem runConverter_ne_fault (c : Converter) (k : Nat) (s : State) (r : Fault) : runConverter c k s ≠ .fault r := by
  rcases runConverter_cases c k s with ⟨-, -, e⟩ | ⟨-, e⟩ | ⟨why, -, e⟩ | ⟨-, -, e⟩ <;> rw [e] <;> nofun

theorem runZero_ne_fault (f : Format) (p : Word) (s : State) (r : Fault) : runZero f p s ≠ .fault r := by
  rcases runZero_cases f p s with ⟨-, e⟩ | ⟨why, -, e⟩ | ⟨-, e⟩ <;> rw [e] <;> nofun

theorem onContext_ne_fault (k : Nat) (s : State) (effect : State → State) (r : Fault) : onContext k s effect ≠ .fault r := by
  rcases onContext_cases k s effect with ⟨-, e⟩ | ⟨-, e⟩ <;> rw [e] <;> nofun

theorem execResolve_ne_fault (c d : Bool) (s : State) (r : Fault) : execResolve c d s ≠ .fault r := by
  rcases execResolve_cases c d s with ⟨id, e⟩ | e | e <;> rw [e] <;> nofun

theorem execSelfmt_ne_fault (s : State) (r : Fault) : execSelfmt s ≠ .fault r := by
  rcases execSelfmt_cases s with ⟨k, e⟩ | e <;> rw [e] <;> nofun

/-- Settles O19: no operation that a command runs answers a fault. -/
theorem noCommandFaults : Obligations.NoCommandFaults := by
  intro i s r
  rcases exec_shape i with ⟨-, k, c, -, hrun⟩ | ⟨-, -, f, hzero⟩ | ⟨-, k, effect, -, hdither, -⟩ | ⟨c, d, rfl⟩ | rfl | ⟨a, rfl⟩
  · rw [hrun]
    exact runConverter_ne_fault c k s r
  · rw [hzero]
    exact runZero_ne_fault f (silence f) s r
  · rw [hdither]
    exact onContext_ne_fault k s effect r
  · exact execResolve_ne_fault c d s r
  · exact execSelfmt_ne_fault s r
  · rw [exec_setctrl]
    nofun

end Sys2Proof.Proofs.Exceptions

/-! Reset: the reset state and the reset event (R340, R341), and the first dither value after it (R103). -/

namespace Sys2Proof.Proofs.Reset

open Sys2Proof.Machine Sys2Proof.Laws

/-- Settles O8: memory lists nothing, every register is 0, and every context is the initial one. -/
theorem resetMeetsInvariant : Obligations.ResetMeetsInvariant :=
  have hzero : FitsAddr Config.defaultParams 0 := spaceSize_pos Config.defaultParams
  have hprev : PrevInRange (initialCtx Config.defaultParams).prev := by decide
  { memory := ⟨.nil, nofun⟩
    inSpace := nofun
    a0 := hzero, a1 := hzero, a2 := hzero, a3 := hzero, a4 := hzero
    workSp := hzero, workDp := hzero, workN := hzero
    ctrl := show Config.accelReset &&& 0xFFFFFFFE = 0 by decide
    status := Nat.zero_le 4
    contexts := by decide
    prevInit := hprev
    prevs := fun c hc => by
      obtain rfl : c = initialCtx Config.defaultParams := List.eq_of_mem_replicate hc
      exact hprev }

/-- The reset event leaves every context at the initial values (R340). -/
theorem contextAt_resetEvent (s : State) (k : Nat) : contextAt (resetEvent s) k = initialCtx s.params := by
  have hset (n : Nat) (c : DitherCtx) : (List.replicate n c).getD k c = c := by
    rw [List.getD_eq_getElem?_getD, List.getElem?_replicate]
    split <;> rfl
  exact hset s.ds.length _

/-- Settles O9: the step performs `resetEvent`, whose fields are written out but for the contexts. -/
theorem resetEventValues : Obligations.ResetEventValues := by
  intro s rest hhost
  exact ⟨_, MachineState.step_action hhost, rfl, rfl, rfl, rfl, rfl, rfl, rfl, rfl, rfl, rfl, rfl, rfl,
    List.length_replicate, fun k _ => contextAt_resetEvent (s.setHost rest) k, rfl, rfl, rfl⟩

/-- The reset state is one that the reset event leaves as it is. -/
theorem resetEvent_reset : resetEvent State.reset = State.reset := rfl

theorem contextAt_reset (k : Nat) : contextAt State.reset k = initialCtx Config.defaultParams := by
  rw [← resetEvent_reset]
  exact contextAt_resetEvent State.reset k

/-- Settles O10: DITHER16 returns the first value of its context, and the initial context's first value is 3174. -/
theorem firstDitherAfterReset : Obligations.FirstDitherAfterReset := by
  refine ⟨rfl, fun k hk => ⟨_, (exec_dither16 k _).trans (Dither.onContext_stepOnce hk _), ?_⟩⟩
  rw [Dither.afterScalar_result0, contextAt_reset, Dither.ditherValue_default]
  rfl

end Sys2Proof.Proofs.Reset
